-- ==== Sys2Proof/Word.lean ====
section
/-! DEFINITION. The block's plain value types (spec/00_scope.md sections 4 and 5, spec/10_state.md R16,
spec/30_encoding.md R43, R49): bytes, colour indices, channels, colour words, colour triples and raw records.
Bit `k` of a value has weight `2^k` (R6), which is `BitVec`'s own numbering. -/

namespace Sys2Proof

/-- One byte of a raw record (R25 (c)). -/
abbrev Byte := BitVec 8

/-- A colour-table index: what a framebuffer cell and an index register hold (R13 to R15, R17). -/
abbrev ColorIndex := BitVec 4

/-- The masked 16-bit colour word of a load-colours record (R49). -/
abbrev ColorWord := BitVec 16

/-- One colour-table entry: three 4-bit channels (R16). -/
structure Rgb where
  r : BitVec 4
  g : BitVec 4
  b : BitVec 4
  deriving DecidableEq, Repr, Inhabited

/-- A raw record: exactly 24 bytes in offset order (R33, R43, R60). -/
abbrev Record := Vector Byte 24

/-- The vector whose element `i` is `f i`, built over a list so that Lean's kernel evaluates one element cheaply. -/
def tabulate {α : Type} {n : Nat} (f : Fin n → α) : Vector α n := ⟨⟨List.ofFn f⟩, by simp⟩

end Sys2Proof
end

