-- ==== Sys2Proof/Syntax.lean ====
section
/-! DEFINITION. The instruction type: one constructor per row of spec/opcode_table.json (142 rows, spec/30_encoding.md
section 8). The nine defined instructions carry their fields at the widths of R52, so that a field wider than its
documented width cannot be written down (R53). The 133 Empty rows carry nothing; they differ in the reason why the
record is Empty (R67) and are all the one typed instruction Empty (DESIGN CHOICE, safe: assumption log 1). -/

namespace Sys2Proof

/-- One constructor per row of the opcode table. -/
inductive Instr where
  /-- Memory preset, code 1 with repeat 0 (R73, R74). -/
  | memoryPreset (color : ColorIndex)
  /-- Border preset, code 2 (R75, R76). -/
  | borderPreset (color : ColorIndex)
  /-- Tile block, overwrite mode, code 6 (R77, R81). -/
  | tileBlock (color0 color1 : ColorIndex) (row : BitVec 5) (column : BitVec 6) (bits : Vector (BitVec 6) 12)
  /-- Scroll with fill, code 20 (R90, R94). -/
  | scrollPreset (color : ColorIndex) (hCmd : BitVec 2) (hOff : BitVec 3) (vCmd : BitVec 2) (vOff : BitVec 4)
  /-- Scroll with wrap-around, code 24 (R91, R95). -/
  | scrollCopy (color : ColorIndex) (hCmd : BitVec 2) (hOff : BitVec 3) (vCmd : BitVec 2) (vOff : BitVec 4)
  /-- Define transparent, code 28 (R100, R101). -/
  | defineTransparent (color : ColorIndex)
  /-- Load colours 0 to 7, code 30 (R86, R88). -/
  | loadColorsLow (entries : Vector Rgb 8)
  /-- Load colours 8 to 15, code 31 (R87, R89). -/
  | loadColorsHigh (entries : Vector Rgb 8)
  /-- Tile block, XOR mode, code 38 (R78, R82). -/
  | tileBlockXor (color0 color1 : ColorIndex) (row : BitVec 5) (column : BitVec 6) (bits : Vector (BitVec 6) 12)
  -- Memory preset, code 1, with this repeat count: Empty (R56).
  | emptyRepeat01 | emptyRepeat02 | emptyRepeat03 | emptyRepeat04 | emptyRepeat05 | emptyRepeat06
  | emptyRepeat07 | emptyRepeat08 | emptyRepeat09 | emptyRepeat10 | emptyRepeat11 | emptyRepeat12
  | emptyRepeat13 | emptyRepeat14 | emptyRepeat15
  -- Reserved instruction code: Empty (R54).
  | emptyReserved00 | emptyReserved03 | emptyReserved04 | emptyReserved05 | emptyReserved07 | emptyReserved08
  | emptyReserved09 | emptyReserved10 | emptyReserved11 | emptyReserved12 | emptyReserved13 | emptyReserved14
  | emptyReserved15 | emptyReserved16 | emptyReserved17 | emptyReserved18 | emptyReserved19 | emptyReserved21
  | emptyReserved22 | emptyReserved23 | emptyReserved25 | emptyReserved26 | emptyReserved27 | emptyReserved29
  | emptyReserved32 | emptyReserved33 | emptyReserved34 | emptyReserved35 | emptyReserved36 | emptyReserved37
  | emptyReserved39 | emptyReserved40 | emptyReserved41 | emptyReserved42 | emptyReserved43 | emptyReserved44
  | emptyReserved45 | emptyReserved46 | emptyReserved47 | emptyReserved48 | emptyReserved49 | emptyReserved50
  | emptyReserved51 | emptyReserved52 | emptyReserved53 | emptyReserved54 | emptyReserved55 | emptyReserved56
  | emptyReserved57 | emptyReserved58 | emptyReserved59 | emptyReserved60 | emptyReserved61 | emptyReserved62
  | emptyReserved63
  -- Command field other than 9: Empty (R55).
  | emptyNotcdg00 | emptyNotcdg01 | emptyNotcdg02 | emptyNotcdg03 | emptyNotcdg04 | emptyNotcdg05
  | emptyNotcdg06 | emptyNotcdg07 | emptyNotcdg08 | emptyNotcdg10 | emptyNotcdg11 | emptyNotcdg12
  | emptyNotcdg13 | emptyNotcdg14 | emptyNotcdg15 | emptyNotcdg16 | emptyNotcdg17 | emptyNotcdg18
  | emptyNotcdg19 | emptyNotcdg20 | emptyNotcdg21 | emptyNotcdg22 | emptyNotcdg23 | emptyNotcdg24
  | emptyNotcdg25 | emptyNotcdg26 | emptyNotcdg27 | emptyNotcdg28 | emptyNotcdg29 | emptyNotcdg30
  | emptyNotcdg31 | emptyNotcdg32 | emptyNotcdg33 | emptyNotcdg34 | emptyNotcdg35 | emptyNotcdg36
  | emptyNotcdg37 | emptyNotcdg38 | emptyNotcdg39 | emptyNotcdg40 | emptyNotcdg41 | emptyNotcdg42
  | emptyNotcdg43 | emptyNotcdg44 | emptyNotcdg45 | emptyNotcdg46 | emptyNotcdg47 | emptyNotcdg48
  | emptyNotcdg49 | emptyNotcdg50 | emptyNotcdg51 | emptyNotcdg52 | emptyNotcdg53 | emptyNotcdg54
  | emptyNotcdg55 | emptyNotcdg56 | emptyNotcdg57 | emptyNotcdg58 | emptyNotcdg59 | emptyNotcdg60
  | emptyNotcdg61 | emptyNotcdg62 | emptyNotcdg63
  deriving DecidableEq, Repr

end Sys2Proof
end

