-- ==== Sys2Proof/Machine/Typed.lean ====
section
/-! DEFINITION. The typed instruction, the value at the decoder's output: a closed set of ten variants
(spec/30_encoding.md R52), and the typed instruction of every opcode-table row. -/

namespace Sys2Proof

/-- The decoder's output (R52). The discriminant has no number (spec/92_eei_decisions.md D12). -/
inductive TypedInstr where
  /-- No effect; still counts as a packet (R67, R69, R71). -/
  | empty
  | memoryPreset (color : ColorIndex)
  | borderPreset (color : ColorIndex)
  | tileBlock (color0 color1 : ColorIndex) (row : BitVec 5) (column : BitVec 6) (bits : Vector (BitVec 6) 12)
  | scrollPreset (color : ColorIndex) (hCmd : BitVec 2) (hOff : BitVec 3) (vCmd : BitVec 2) (vOff : BitVec 4)
  | scrollCopy (color : ColorIndex) (hCmd : BitVec 2) (hOff : BitVec 3) (vCmd : BitVec 2) (vOff : BitVec 4)
  | defineTransparent (color : ColorIndex)
  | loadColorsLow (entries : Vector Rgb 8)
  | loadColorsHigh (entries : Vector Rgb 8)
  | tileBlockXor (color0 color1 : ColorIndex) (row : BitVec 5) (column : BitVec 6) (bits : Vector (BitVec 6) 12)
  deriving DecidableEq, Repr

/-- The `typed_instruction` column of the opcode table: the nine defined rows keep their fields, the 133 Empty rows
are the one variant Empty, which carries no fields (R67). -/
def Instr.typed : Instr → TypedInstr
  | .memoryPreset color => .memoryPreset color
  | .borderPreset color => .borderPreset color
  | .tileBlock color0 color1 row column bits => .tileBlock color0 color1 row column bits
  | .scrollPreset color hCmd hOff vCmd vOff => .scrollPreset color hCmd hOff vCmd vOff
  | .scrollCopy color hCmd hOff vCmd vOff => .scrollCopy color hCmd hOff vCmd vOff
  | .defineTransparent color => .defineTransparent color
  | .loadColorsLow entries => .loadColorsLow entries
  | .loadColorsHigh entries => .loadColorsHigh entries
  | .tileBlockXor color0 color1 row column bits => .tileBlockXor color0 color1 row column bits
  | .emptyRepeat01 | .emptyRepeat02 | .emptyRepeat03 | .emptyRepeat04 | .emptyRepeat05 | .emptyRepeat06
  | .emptyRepeat07 | .emptyRepeat08 | .emptyRepeat09 | .emptyRepeat10 | .emptyRepeat11 | .emptyRepeat12
  | .emptyRepeat13 | .emptyRepeat14 | .emptyRepeat15 | .emptyReserved00 | .emptyReserved03 | .emptyReserved04
  | .emptyReserved05 | .emptyReserved07 | .emptyReserved08 | .emptyReserved09 | .emptyReserved10
  | .emptyReserved11 | .emptyReserved12 | .emptyReserved13 | .emptyReserved14 | .emptyReserved15
  | .emptyReserved16 | .emptyReserved17 | .emptyReserved18 | .emptyReserved19 | .emptyReserved21
  | .emptyReserved22 | .emptyReserved23 | .emptyReserved25 | .emptyReserved26 | .emptyReserved27
  | .emptyReserved29 | .emptyReserved32 | .emptyReserved33 | .emptyReserved34 | .emptyReserved35
  | .emptyReserved36 | .emptyReserved37 | .emptyReserved39 | .emptyReserved40 | .emptyReserved41
  | .emptyReserved42 | .emptyReserved43 | .emptyReserved44 | .emptyReserved45 | .emptyReserved46
  | .emptyReserved47 | .emptyReserved48 | .emptyReserved49 | .emptyReserved50 | .emptyReserved51
  | .emptyReserved52 | .emptyReserved53 | .emptyReserved54 | .emptyReserved55 | .emptyReserved56
  | .emptyReserved57 | .emptyReserved58 | .emptyReserved59 | .emptyReserved60 | .emptyReserved61
  | .emptyReserved62 | .emptyReserved63 | .emptyNotcdg00 | .emptyNotcdg01 | .emptyNotcdg02 | .emptyNotcdg03
  | .emptyNotcdg04 | .emptyNotcdg05 | .emptyNotcdg06 | .emptyNotcdg07 | .emptyNotcdg08 | .emptyNotcdg10
  | .emptyNotcdg11 | .emptyNotcdg12 | .emptyNotcdg13 | .emptyNotcdg14 | .emptyNotcdg15 | .emptyNotcdg16
  | .emptyNotcdg17 | .emptyNotcdg18 | .emptyNotcdg19 | .emptyNotcdg20 | .emptyNotcdg21 | .emptyNotcdg22
  | .emptyNotcdg23 | .emptyNotcdg24 | .emptyNotcdg25 | .emptyNotcdg26 | .emptyNotcdg27 | .emptyNotcdg28
  | .emptyNotcdg29 | .emptyNotcdg30 | .emptyNotcdg31 | .emptyNotcdg32 | .emptyNotcdg33 | .emptyNotcdg34
  | .emptyNotcdg35 | .emptyNotcdg36 | .emptyNotcdg37 | .emptyNotcdg38 | .emptyNotcdg39 | .emptyNotcdg40
  | .emptyNotcdg41 | .emptyNotcdg42 | .emptyNotcdg43 | .emptyNotcdg44 | .emptyNotcdg45 | .emptyNotcdg46
  | .emptyNotcdg47 | .emptyNotcdg48 | .emptyNotcdg49 | .emptyNotcdg50 | .emptyNotcdg51 | .emptyNotcdg52
  | .emptyNotcdg53 | .emptyNotcdg54 | .emptyNotcdg55 | .emptyNotcdg56 | .emptyNotcdg57 | .emptyNotcdg58
  | .emptyNotcdg59 | .emptyNotcdg60 | .emptyNotcdg61 | .emptyNotcdg62 | .emptyNotcdg63 => .empty

end Sys2Proof
end

