-- ==== Sys2Proof/Decode.lean ====
section
/-! DEFINITION. The packet decoder (spec/40_decoder_common.md R63 to R67), total on every record, the field extraction
it rests on (spec/30_encoding.md R44 to R50, spec/43_load_colors.md R84), the opcode table's masks and matches
(section 8 of spec/30_encoding.md), and the canonical encoder (R62). -/

namespace Sys2Proof

/-! ### Fields of a record -/

/-- The low 6 bits of a command, instruction or payload byte, the only bits that can matter (R44).
Bit 0 is the least significant (R6; UNVERIFIED beyond the spec's decision D2, unsafe: assumption log 19). -/
def low6 (b : Byte) : BitVec 6 := (b &&& 0x3F).setWidth 6

/-- The low 5 bits of a payload byte (the tile row, R48). -/
def low5 (b : Byte) : BitVec 5 := (b &&& 0x1F).setWidth 5

/-- The low 4 bits of a payload byte (colours and the repeat count, R48). -/
def low4 (b : Byte) : BitVec 4 := (b &&& 0x0F).setWidth 4

/-- Payload byte `k`, record byte `4 + k` (R43). -/
def pay (rec : Record) (k : Fin 16) : Byte := rec[4 + k.val]

/-- The command field (R46). -/
def commandField (rec : Record) : BitVec 6 := low6 rec[0]

/-- The instruction field, the instruction code (R47). -/
def codeField (rec : Record) : BitVec 6 := low6 rec[1]

/-- The repeat field of a memory preset (R48, R73). -/
def repeatField (rec : Record) : BitVec 4 := low4 (pay rec 1)

/-- The colour field of payload byte 0, and `color0` of a tile (R48). -/
def colorField (rec : Record) : ColorIndex := low4 (pay rec 0)

/-- `color1` of a tile (R48). -/
def color1Field (rec : Record) : ColorIndex := low4 (pay rec 1)

/-- The row of a tile, 0 to 31, not range-checked here (R48, R77). -/
def rowField (rec : Record) : BitVec 5 := low5 (pay rec 2)

/-- The column of a tile, 0 to 63, not range-checked here (R48, R77). -/
def columnField (rec : Record) : BitVec 6 := low6 (pay rec 3)

/-- The twelve bitmap values of a tile, payload bytes 4 to 15 (R48). -/
def bitsField (rec : Record) : Vector (BitVec 6) 12 := tabulate fun i => low6 (pay rec ⟨4 + i.val, by omega⟩)

/-- The command code of a scroll field, its bits 5 and 4 (R50). -/
def scrollCmd (b : Byte) : BitVec 2 := (((b &&& 0x3F) >>> 4) &&& 0x3).setWidth 2

/-- The horizontal scroll command (R50). -/
def hCmdField (rec : Record) : BitVec 2 := scrollCmd (pay rec 1)

/-- The horizontal scroll offset, bits 2 to 0 of its field; bit 3 is not read (R50). -/
def hOffField (rec : Record) : BitVec 3 := ((pay rec 1 &&& 0x3F) &&& 0x07).setWidth 3

/-- The vertical scroll command (R50). -/
def vCmdField (rec : Record) : BitVec 2 := scrollCmd (pay rec 2)

/-- The vertical scroll offset, bits 3 to 0 of its field (R50). -/
def vOffField (rec : Record) : BitVec 4 := ((pay rec 2 &&& 0x3F) &&& 0x0F).setWidth 4

/-- The 16-bit colour word of two payload bytes, the first the more significant, masked (R32, R49). -/
def colorWord (hi lo : Byte) : ColorWord := ((hi.setWidth 16 <<< 8) ||| lo.setWidth 16) &&& 0x3F3F

/-- The three channels of a masked colour word (R84). -/
def rgb (w : ColorWord) : Rgb where
  r := ((w >>> 10) &&& 0xF).setWidth 4
  g := (((w >>> 6) &&& 0xC) ||| ((w >>> 4) &&& 0xF)).setWidth 4
  b := (w &&& 0xF).setWidth 4

/-- The eight colours of a load-colours record; entry `k` comes from payload bytes `2k` and `2k + 1` (R86). -/
def entriesField (rec : Record) : Vector Rgb 8 :=
  tabulate fun k => rgb (colorWord (pay rec ⟨2 * k.val, by omega⟩) (pay rec ⟨2 * k.val + 1, by omega⟩))

/-! ### The Empty rows -/

/-- The Empty row of a memory preset with repeat count `v` (R56): `decode` calls it only with `v` from 1 to 15, so its last arm is the row of 15. -/
def emptyRepeatRow (v : BitVec 4) : Instr :=
  match v.toNat with
  | 1 => .emptyRepeat01
  | 2 => .emptyRepeat02
  | 3 => .emptyRepeat03
  | 4 => .emptyRepeat04
  | 5 => .emptyRepeat05
  | 6 => .emptyRepeat06
  | 7 => .emptyRepeat07
  | 8 => .emptyRepeat08
  | 9 => .emptyRepeat09
  | 10 => .emptyRepeat10
  | 11 => .emptyRepeat11
  | 12 => .emptyRepeat12
  | 13 => .emptyRepeat13
  | 14 => .emptyRepeat14
  | _ => .emptyRepeat15

/-- The Empty row of the reserved instruction code `v` (R54): `decode` calls it only with one of the 55 reserved codes, so its last arm is the row of 63. -/
def emptyReservedRow (v : BitVec 6) : Instr :=
  match v.toNat with
  | 0 => .emptyReserved00
  | 3 => .emptyReserved03
  | 4 => .emptyReserved04
  | 5 => .emptyReserved05
  | 7 => .emptyReserved07
  | 8 => .emptyReserved08
  | 9 => .emptyReserved09
  | 10 => .emptyReserved10
  | 11 => .emptyReserved11
  | 12 => .emptyReserved12
  | 13 => .emptyReserved13
  | 14 => .emptyReserved14
  | 15 => .emptyReserved15
  | 16 => .emptyReserved16
  | 17 => .emptyReserved17
  | 18 => .emptyReserved18
  | 19 => .emptyReserved19
  | 21 => .emptyReserved21
  | 22 => .emptyReserved22
  | 23 => .emptyReserved23
  | 25 => .emptyReserved25
  | 26 => .emptyReserved26
  | 27 => .emptyReserved27
  | 29 => .emptyReserved29
  | 32 => .emptyReserved32
  | 33 => .emptyReserved33
  | 34 => .emptyReserved34
  | 35 => .emptyReserved35
  | 36 => .emptyReserved36
  | 37 => .emptyReserved37
  | 39 => .emptyReserved39
  | 40 => .emptyReserved40
  | 41 => .emptyReserved41
  | 42 => .emptyReserved42
  | 43 => .emptyReserved43
  | 44 => .emptyReserved44
  | 45 => .emptyReserved45
  | 46 => .emptyReserved46
  | 47 => .emptyReserved47
  | 48 => .emptyReserved48
  | 49 => .emptyReserved49
  | 50 => .emptyReserved50
  | 51 => .emptyReserved51
  | 52 => .emptyReserved52
  | 53 => .emptyReserved53
  | 54 => .emptyReserved54
  | 55 => .emptyReserved55
  | 56 => .emptyReserved56
  | 57 => .emptyReserved57
  | 58 => .emptyReserved58
  | 59 => .emptyReserved59
  | 60 => .emptyReserved60
  | 61 => .emptyReserved61
  | 62 => .emptyReserved62
  | _ => .emptyReserved63

/-- The Empty row of the command value `v` (R55): `decode` calls it only with `v` other than 9, so its last arm is the row of 63. -/
def emptyNotcdgRow (v : BitVec 6) : Instr :=
  match v.toNat with
  | 0 => .emptyNotcdg00
  | 1 => .emptyNotcdg01
  | 2 => .emptyNotcdg02
  | 3 => .emptyNotcdg03
  | 4 => .emptyNotcdg04
  | 5 => .emptyNotcdg05
  | 6 => .emptyNotcdg06
  | 7 => .emptyNotcdg07
  | 8 => .emptyNotcdg08
  | 10 => .emptyNotcdg10
  | 11 => .emptyNotcdg11
  | 12 => .emptyNotcdg12
  | 13 => .emptyNotcdg13
  | 14 => .emptyNotcdg14
  | 15 => .emptyNotcdg15
  | 16 => .emptyNotcdg16
  | 17 => .emptyNotcdg17
  | 18 => .emptyNotcdg18
  | 19 => .emptyNotcdg19
  | 20 => .emptyNotcdg20
  | 21 => .emptyNotcdg21
  | 22 => .emptyNotcdg22
  | 23 => .emptyNotcdg23
  | 24 => .emptyNotcdg24
  | 25 => .emptyNotcdg25
  | 26 => .emptyNotcdg26
  | 27 => .emptyNotcdg27
  | 28 => .emptyNotcdg28
  | 29 => .emptyNotcdg29
  | 30 => .emptyNotcdg30
  | 31 => .emptyNotcdg31
  | 32 => .emptyNotcdg32
  | 33 => .emptyNotcdg33
  | 34 => .emptyNotcdg34
  | 35 => .emptyNotcdg35
  | 36 => .emptyNotcdg36
  | 37 => .emptyNotcdg37
  | 38 => .emptyNotcdg38
  | 39 => .emptyNotcdg39
  | 40 => .emptyNotcdg40
  | 41 => .emptyNotcdg41
  | 42 => .emptyNotcdg42
  | 43 => .emptyNotcdg43
  | 44 => .emptyNotcdg44
  | 45 => .emptyNotcdg45
  | 46 => .emptyNotcdg46
  | 47 => .emptyNotcdg47
  | 48 => .emptyNotcdg48
  | 49 => .emptyNotcdg49
  | 50 => .emptyNotcdg50
  | 51 => .emptyNotcdg51
  | 52 => .emptyNotcdg52
  | 53 => .emptyNotcdg53
  | 54 => .emptyNotcdg54
  | 55 => .emptyNotcdg55
  | 56 => .emptyNotcdg56
  | 57 => .emptyNotcdg57
  | 58 => .emptyNotcdg58
  | 59 => .emptyNotcdg59
  | 60 => .emptyNotcdg60
  | 61 => .emptyNotcdg61
  | 62 => .emptyNotcdg62
  | _ => .emptyNotcdg63

/-! ### The decoder -/

/-- The decoder (R63): the command gate first (R65), then the whole 6-bit instruction code (R66). Total and pure (R64).
It answers the opcode-table row; the decoder's output is that row's typed instruction, `(decode rec).typed`. Nothing is
range-checked here, and a scroll command 3 passes through (R57, R77; UNVERIFIED beyond the spec's decisions
D5 and D10, unsafe: assumption log 20). -/
def decode (rec : Record) : Instr :=
  if commandField rec = 9 then
    match (codeField rec).toNat with
    | 1 => if repeatField rec = 0 then .memoryPreset (colorField rec) else emptyRepeatRow (repeatField rec)
    | 2 => .borderPreset (colorField rec)
    | 6 => .tileBlock (colorField rec) (color1Field rec) (rowField rec) (columnField rec) (bitsField rec)
    | 38 => .tileBlockXor (colorField rec) (color1Field rec) (rowField rec) (columnField rec) (bitsField rec)
    | 30 => .loadColorsLow (entriesField rec)
    | 31 => .loadColorsHigh (entriesField rec)
    | 20 => .scrollPreset (colorField rec) (hCmdField rec) (hOffField rec) (vCmdField rec) (vOffField rec)
    | 24 => .scrollCopy (colorField rec) (hCmdField rec) (hOffField rec) (vCmdField rec) (vOffField rec)
    | 28 => .defineTransparent (colorField rec)
    | _ => emptyReservedRow (codeField rec)
  else emptyNotcdgRow (commandField rec)

/-- Why a list of bytes is no record. -/
inductive DecodeReject where
  /-- Raised by `decodeBytes` for a list that is not 24 bytes long: such a list is no record, and cutting the byte
  stream into records is the packet source's work (R60, spec/93_implementation_defined.md U19). Safe. -/
  | notARecord (length : Nat)
  deriving DecidableEq, Repr

/-- The decoder on any list of bytes: a list of 24 bytes is a record and decodes; any other is rejected by name
(DEDUCED, safe: assumption log 16). -/
def decodeBytes (bytes : List Byte) : Except DecodeReject Instr :=
  if h : bytes.length = 24 then .ok (decode ⟨⟨bytes⟩, by simpa using h⟩) else .error (.notARecord bytes.length)

/-! ### The opcode table -/

/-- A row's mask and match over the 48-bit key. -/
structure TableRow where
  mask : BitVec 48
  pattern : BitVec 48
  deriving DecidableEq, Repr

/-- The 48-bit decode key: the first six record bytes, byte 0 most significant (spec/30_encoding.md section 8). -/
def tableKey (rec : Record) : BitVec 48 := rec[0] ++ rec[1] ++ rec[2] ++ rec[3] ++ rec[4] ++ rec[5]

/-- A key matches a row when the key under the row's mask is the row's match. -/
def TableRow.accepts (row : TableRow) (key : BitVec 48) : Bool := key &&& row.mask == row.pattern

/-- The opcode table's mask and match of every row, word for word (spec/opcode_table.json). -/
def Instr.row : Instr → TableRow
  | .memoryPreset _ => ⟨0x3f3f0000000f, 0x090100000000⟩
  | .borderPreset _ => ⟨0x3f3f00000000, 0x090200000000⟩
  | .tileBlock _ _ _ _ _ => ⟨0x3f3f00000000, 0x090600000000⟩
  | .scrollPreset _ _ _ _ _ => ⟨0x3f3f00000000, 0x091400000000⟩
  | .scrollCopy _ _ _ _ _ => ⟨0x3f3f00000000, 0x091800000000⟩
  | .defineTransparent _ => ⟨0x3f3f00000000, 0x091c00000000⟩
  | .loadColorsLow _ => ⟨0x3f3f00000000, 0x091e00000000⟩
  | .loadColorsHigh _ => ⟨0x3f3f00000000, 0x091f00000000⟩
  | .tileBlockXor _ _ _ _ _ => ⟨0x3f3f00000000, 0x092600000000⟩
  | .emptyRepeat01 => ⟨0x3f3f0000000f, 0x090100000001⟩
  | .emptyRepeat02 => ⟨0x3f3f0000000f, 0x090100000002⟩
  | .emptyRepeat03 => ⟨0x3f3f0000000f, 0x090100000003⟩
  | .emptyRepeat04 => ⟨0x3f3f0000000f, 0x090100000004⟩
  | .emptyRepeat05 => ⟨0x3f3f0000000f, 0x090100000005⟩
  | .emptyRepeat06 => ⟨0x3f3f0000000f, 0x090100000006⟩
  | .emptyRepeat07 => ⟨0x3f3f0000000f, 0x090100000007⟩
  | .emptyRepeat08 => ⟨0x3f3f0000000f, 0x090100000008⟩
  | .emptyRepeat09 => ⟨0x3f3f0000000f, 0x090100000009⟩
  | .emptyRepeat10 => ⟨0x3f3f0000000f, 0x09010000000a⟩
  | .emptyRepeat11 => ⟨0x3f3f0000000f, 0x09010000000b⟩
  | .emptyRepeat12 => ⟨0x3f3f0000000f, 0x09010000000c⟩
  | .emptyRepeat13 => ⟨0x3f3f0000000f, 0x09010000000d⟩
  | .emptyRepeat14 => ⟨0x3f3f0000000f, 0x09010000000e⟩
  | .emptyRepeat15 => ⟨0x3f3f0000000f, 0x09010000000f⟩
  | .emptyReserved00 => ⟨0x3f3f00000000, 0x090000000000⟩
  | .emptyReserved03 => ⟨0x3f3f00000000, 0x090300000000⟩
  | .emptyReserved04 => ⟨0x3f3f00000000, 0x090400000000⟩
  | .emptyReserved05 => ⟨0x3f3f00000000, 0x090500000000⟩
  | .emptyReserved07 => ⟨0x3f3f00000000, 0x090700000000⟩
  | .emptyReserved08 => ⟨0x3f3f00000000, 0x090800000000⟩
  | .emptyReserved09 => ⟨0x3f3f00000000, 0x090900000000⟩
  | .emptyReserved10 => ⟨0x3f3f00000000, 0x090a00000000⟩
  | .emptyReserved11 => ⟨0x3f3f00000000, 0x090b00000000⟩
  | .emptyReserved12 => ⟨0x3f3f00000000, 0x090c00000000⟩
  | .emptyReserved13 => ⟨0x3f3f00000000, 0x090d00000000⟩
  | .emptyReserved14 => ⟨0x3f3f00000000, 0x090e00000000⟩
  | .emptyReserved15 => ⟨0x3f3f00000000, 0x090f00000000⟩
  | .emptyReserved16 => ⟨0x3f3f00000000, 0x091000000000⟩
  | .emptyReserved17 => ⟨0x3f3f00000000, 0x091100000000⟩
  | .emptyReserved18 => ⟨0x3f3f00000000, 0x091200000000⟩
  | .emptyReserved19 => ⟨0x3f3f00000000, 0x091300000000⟩
  | .emptyReserved21 => ⟨0x3f3f00000000, 0x091500000000⟩
  | .emptyReserved22 => ⟨0x3f3f00000000, 0x091600000000⟩
  | .emptyReserved23 => ⟨0x3f3f00000000, 0x091700000000⟩
  | .emptyReserved25 => ⟨0x3f3f00000000, 0x091900000000⟩
  | .emptyReserved26 => ⟨0x3f3f00000000, 0x091a00000000⟩
  | .emptyReserved27 => ⟨0x3f3f00000000, 0x091b00000000⟩
  | .emptyReserved29 => ⟨0x3f3f00000000, 0x091d00000000⟩
  | .emptyReserved32 => ⟨0x3f3f00000000, 0x092000000000⟩
  | .emptyReserved33 => ⟨0x3f3f00000000, 0x092100000000⟩
  | .emptyReserved34 => ⟨0x3f3f00000000, 0x092200000000⟩
  | .emptyReserved35 => ⟨0x3f3f00000000, 0x092300000000⟩
  | .emptyReserved36 => ⟨0x3f3f00000000, 0x092400000000⟩
  | .emptyReserved37 => ⟨0x3f3f00000000, 0x092500000000⟩
  | .emptyReserved39 => ⟨0x3f3f00000000, 0x092700000000⟩
  | .emptyReserved40 => ⟨0x3f3f00000000, 0x092800000000⟩
  | .emptyReserved41 => ⟨0x3f3f00000000, 0x092900000000⟩
  | .emptyReserved42 => ⟨0x3f3f00000000, 0x092a00000000⟩
  | .emptyReserved43 => ⟨0x3f3f00000000, 0x092b00000000⟩
  | .emptyReserved44 => ⟨0x3f3f00000000, 0x092c00000000⟩
  | .emptyReserved45 => ⟨0x3f3f00000000, 0x092d00000000⟩
  | .emptyReserved46 => ⟨0x3f3f00000000, 0x092e00000000⟩
  | .emptyReserved47 => ⟨0x3f3f00000000, 0x092f00000000⟩
  | .emptyReserved48 => ⟨0x3f3f00000000, 0x093000000000⟩
  | .emptyReserved49 => ⟨0x3f3f00000000, 0x093100000000⟩
  | .emptyReserved50 => ⟨0x3f3f00000000, 0x093200000000⟩
  | .emptyReserved51 => ⟨0x3f3f00000000, 0x093300000000⟩
  | .emptyReserved52 => ⟨0x3f3f00000000, 0x093400000000⟩
  | .emptyReserved53 => ⟨0x3f3f00000000, 0x093500000000⟩
  | .emptyReserved54 => ⟨0x3f3f00000000, 0x093600000000⟩
  | .emptyReserved55 => ⟨0x3f3f00000000, 0x093700000000⟩
  | .emptyReserved56 => ⟨0x3f3f00000000, 0x093800000000⟩
  | .emptyReserved57 => ⟨0x3f3f00000000, 0x093900000000⟩
  | .emptyReserved58 => ⟨0x3f3f00000000, 0x093a00000000⟩
  | .emptyReserved59 => ⟨0x3f3f00000000, 0x093b00000000⟩
  | .emptyReserved60 => ⟨0x3f3f00000000, 0x093c00000000⟩
  | .emptyReserved61 => ⟨0x3f3f00000000, 0x093d00000000⟩
  | .emptyReserved62 => ⟨0x3f3f00000000, 0x093e00000000⟩
  | .emptyReserved63 => ⟨0x3f3f00000000, 0x093f00000000⟩
  | .emptyNotcdg00 => ⟨0x3f0000000000, 0x000000000000⟩
  | .emptyNotcdg01 => ⟨0x3f0000000000, 0x010000000000⟩
  | .emptyNotcdg02 => ⟨0x3f0000000000, 0x020000000000⟩
  | .emptyNotcdg03 => ⟨0x3f0000000000, 0x030000000000⟩
  | .emptyNotcdg04 => ⟨0x3f0000000000, 0x040000000000⟩
  | .emptyNotcdg05 => ⟨0x3f0000000000, 0x050000000000⟩
  | .emptyNotcdg06 => ⟨0x3f0000000000, 0x060000000000⟩
  | .emptyNotcdg07 => ⟨0x3f0000000000, 0x070000000000⟩
  | .emptyNotcdg08 => ⟨0x3f0000000000, 0x080000000000⟩
  | .emptyNotcdg10 => ⟨0x3f0000000000, 0x0a0000000000⟩
  | .emptyNotcdg11 => ⟨0x3f0000000000, 0x0b0000000000⟩
  | .emptyNotcdg12 => ⟨0x3f0000000000, 0x0c0000000000⟩
  | .emptyNotcdg13 => ⟨0x3f0000000000, 0x0d0000000000⟩
  | .emptyNotcdg14 => ⟨0x3f0000000000, 0x0e0000000000⟩
  | .emptyNotcdg15 => ⟨0x3f0000000000, 0x0f0000000000⟩
  | .emptyNotcdg16 => ⟨0x3f0000000000, 0x100000000000⟩
  | .emptyNotcdg17 => ⟨0x3f0000000000, 0x110000000000⟩
  | .emptyNotcdg18 => ⟨0x3f0000000000, 0x120000000000⟩
  | .emptyNotcdg19 => ⟨0x3f0000000000, 0x130000000000⟩
  | .emptyNotcdg20 => ⟨0x3f0000000000, 0x140000000000⟩
  | .emptyNotcdg21 => ⟨0x3f0000000000, 0x150000000000⟩
  | .emptyNotcdg22 => ⟨0x3f0000000000, 0x160000000000⟩
  | .emptyNotcdg23 => ⟨0x3f0000000000, 0x170000000000⟩
  | .emptyNotcdg24 => ⟨0x3f0000000000, 0x180000000000⟩
  | .emptyNotcdg25 => ⟨0x3f0000000000, 0x190000000000⟩
  | .emptyNotcdg26 => ⟨0x3f0000000000, 0x1a0000000000⟩
  | .emptyNotcdg27 => ⟨0x3f0000000000, 0x1b0000000000⟩
  | .emptyNotcdg28 => ⟨0x3f0000000000, 0x1c0000000000⟩
  | .emptyNotcdg29 => ⟨0x3f0000000000, 0x1d0000000000⟩
  | .emptyNotcdg30 => ⟨0x3f0000000000, 0x1e0000000000⟩
  | .emptyNotcdg31 => ⟨0x3f0000000000, 0x1f0000000000⟩
  | .emptyNotcdg32 => ⟨0x3f0000000000, 0x200000000000⟩
  | .emptyNotcdg33 => ⟨0x3f0000000000, 0x210000000000⟩
  | .emptyNotcdg34 => ⟨0x3f0000000000, 0x220000000000⟩
  | .emptyNotcdg35 => ⟨0x3f0000000000, 0x230000000000⟩
  | .emptyNotcdg36 => ⟨0x3f0000000000, 0x240000000000⟩
  | .emptyNotcdg37 => ⟨0x3f0000000000, 0x250000000000⟩
  | .emptyNotcdg38 => ⟨0x3f0000000000, 0x260000000000⟩
  | .emptyNotcdg39 => ⟨0x3f0000000000, 0x270000000000⟩
  | .emptyNotcdg40 => ⟨0x3f0000000000, 0x280000000000⟩
  | .emptyNotcdg41 => ⟨0x3f0000000000, 0x290000000000⟩
  | .emptyNotcdg42 => ⟨0x3f0000000000, 0x2a0000000000⟩
  | .emptyNotcdg43 => ⟨0x3f0000000000, 0x2b0000000000⟩
  | .emptyNotcdg44 => ⟨0x3f0000000000, 0x2c0000000000⟩
  | .emptyNotcdg45 => ⟨0x3f0000000000, 0x2d0000000000⟩
  | .emptyNotcdg46 => ⟨0x3f0000000000, 0x2e0000000000⟩
  | .emptyNotcdg47 => ⟨0x3f0000000000, 0x2f0000000000⟩
  | .emptyNotcdg48 => ⟨0x3f0000000000, 0x300000000000⟩
  | .emptyNotcdg49 => ⟨0x3f0000000000, 0x310000000000⟩
  | .emptyNotcdg50 => ⟨0x3f0000000000, 0x320000000000⟩
  | .emptyNotcdg51 => ⟨0x3f0000000000, 0x330000000000⟩
  | .emptyNotcdg52 => ⟨0x3f0000000000, 0x340000000000⟩
  | .emptyNotcdg53 => ⟨0x3f0000000000, 0x350000000000⟩
  | .emptyNotcdg54 => ⟨0x3f0000000000, 0x360000000000⟩
  | .emptyNotcdg55 => ⟨0x3f0000000000, 0x370000000000⟩
  | .emptyNotcdg56 => ⟨0x3f0000000000, 0x380000000000⟩
  | .emptyNotcdg57 => ⟨0x3f0000000000, 0x390000000000⟩
  | .emptyNotcdg58 => ⟨0x3f0000000000, 0x3a0000000000⟩
  | .emptyNotcdg59 => ⟨0x3f0000000000, 0x3b0000000000⟩
  | .emptyNotcdg60 => ⟨0x3f0000000000, 0x3c0000000000⟩
  | .emptyNotcdg61 => ⟨0x3f0000000000, 0x3d0000000000⟩
  | .emptyNotcdg62 => ⟨0x3f0000000000, 0x3e0000000000⟩
  | .emptyNotcdg63 => ⟨0x3f0000000000, 0x3f0000000000⟩

/-- The bytes of a table word of `nbits` bits, numbered as the table numbers its key: record byte 0 is the most
significant byte of the word, so bit 0 is the least significant bit of the LAST of its bytes. Record bytes that the
word does not reach are zero. None where `nbits` is no whole number of bytes or more than a record
(DEDUCED, safe: assumption log 5). -/
def tableWordBytes (nbits w : Nat) : Option (List Byte) :=
  if nbits % 8 = 0 ∧ nbits ≤ 192 then
    some ((List.range 24).map fun k =>
      if 8 * (k + 1) ≤ nbits then BitVec.ofNat 8 (w >>> (nbits - 8 * (k + 1))) else 0)
  else none

/-- The instruction the decoder reads from a record whose first bits are the table word `w`, the other bits zero. -/
def decodeTableWord (nbits w : Nat) : Option Instr :=
  match tableWordBytes nbits w with
  | some bytes => (decodeBytes bytes).toOption
  | none => none

/-! ### The canonical encoder (R62) -/

/-- A payload that starts with the given bytes and is zero after them. -/
def payload (bytes : List Byte) : Vector Byte 16 := tabulate fun k => bytes.getD k.val 0

/-- A record with the given command byte, instruction byte and payload, and zero parity bytes (R43, R62). -/
def recordOf (command code : Byte) (p : Vector Byte 16) : Record :=
  tabulate fun k =>
    if k.val = 0 then command
    else if k.val = 1 then code
    else if h : 4 ≤ k.val ∧ k.val < 20 then p[k.val - 4]
    else 0

/-- The payload of a tile instruction (R62). -/
def tilePayload (color0 color1 : ColorIndex) (row : BitVec 5) (column : BitVec 6) (bits : Vector (BitVec 6) 12) :
    Vector Byte 16 :=
  tabulate fun k =>
    if k.val = 0 then color0.setWidth 8
    else if k.val = 1 then color1.setWidth 8
    else if k.val = 2 then row.setWidth 8
    else if h : 4 ≤ k.val then (bits[k.val - 4]).setWidth 8
    else column.setWidth 8

/-- The payload of a load-colours instruction: two bytes for each entry (R62). -/
def colorsPayload (entries : Vector Rgb 8) : Vector Byte 16 :=
  tabulate fun k =>
    let e := entries[k.val / 2]
    if k.val % 2 = 0 then (e.r.setWidth 8 <<< 2) ||| (e.g.setWidth 8 >>> 2)
    else ((e.g.setWidth 8 &&& 3) <<< 4) ||| e.b.setWidth 8

/-- The payload of a scroll instruction (R62). -/
def scrollPayload (color : ColorIndex) (hCmd : BitVec 2) (hOff : BitVec 3) (vCmd : BitVec 2) (vOff : BitVec 4) :
    Vector Byte 16 :=
  payload [color.setWidth 8, (hCmd.setWidth 8 <<< 4) ||| hOff.setWidth 8, (vCmd.setWidth 8 <<< 4) ||| vOff.setWidth 8]

/-- The canonical record of every instruction (R62): zero in every bit the decoder ignores. R62's record of Empty, 24
zero bytes, is that of the row with command 0; every other Empty row gets the record that selects it
(DESIGN CHOICE, safe: assumption log 15). The encoder is no part of the block. -/
def encode : Instr → Record
  | .memoryPreset color => recordOf 0x09 1 (payload [color.setWidth 8])
  | .borderPreset color => recordOf 0x09 2 (payload [color.setWidth 8])
  | .tileBlock color0 color1 row column bits => recordOf 0x09 6 (tilePayload color0 color1 row column bits)
  | .tileBlockXor color0 color1 row column bits => recordOf 0x09 38 (tilePayload color0 color1 row column bits)
  | .loadColorsLow entries => recordOf 0x09 30 (colorsPayload entries)
  | .loadColorsHigh entries => recordOf 0x09 31 (colorsPayload entries)
  | .scrollPreset color hCmd hOff vCmd vOff => recordOf 0x09 20 (scrollPayload color hCmd hOff vCmd vOff)
  | .scrollCopy color hCmd hOff vCmd vOff => recordOf 0x09 24 (scrollPayload color hCmd hOff vCmd vOff)
  | .defineTransparent color => recordOf 0x09 28 (payload [color.setWidth 8])
  | .emptyRepeat01 => recordOf 0x09 0x01 (payload [0, 1])
  | .emptyRepeat02 => recordOf 0x09 0x01 (payload [0, 2])
  | .emptyRepeat03 => recordOf 0x09 0x01 (payload [0, 3])
  | .emptyRepeat04 => recordOf 0x09 0x01 (payload [0, 4])
  | .emptyRepeat05 => recordOf 0x09 0x01 (payload [0, 5])
  | .emptyRepeat06 => recordOf 0x09 0x01 (payload [0, 6])
  | .emptyRepeat07 => recordOf 0x09 0x01 (payload [0, 7])
  | .emptyRepeat08 => recordOf 0x09 0x01 (payload [0, 8])
  | .emptyRepeat09 => recordOf 0x09 0x01 (payload [0, 9])
  | .emptyRepeat10 => recordOf 0x09 0x01 (payload [0, 10])
  | .emptyRepeat11 => recordOf 0x09 0x01 (payload [0, 11])
  | .emptyRepeat12 => recordOf 0x09 0x01 (payload [0, 12])
  | .emptyRepeat13 => recordOf 0x09 0x01 (payload [0, 13])
  | .emptyRepeat14 => recordOf 0x09 0x01 (payload [0, 14])
  | .emptyRepeat15 => recordOf 0x09 0x01 (payload [0, 15])
  | .emptyReserved00 => recordOf 0x09 0 (payload [])
  | .emptyReserved03 => recordOf 0x09 3 (payload [])
  | .emptyReserved04 => recordOf 0x09 4 (payload [])
  | .emptyReserved05 => recordOf 0x09 5 (payload [])
  | .emptyReserved07 => recordOf 0x09 7 (payload [])
  | .emptyReserved08 => recordOf 0x09 8 (payload [])
  | .emptyReserved09 => recordOf 0x09 9 (payload [])
  | .emptyReserved10 => recordOf 0x09 10 (payload [])
  | .emptyReserved11 => recordOf 0x09 11 (payload [])
  | .emptyReserved12 => recordOf 0x09 12 (payload [])
  | .emptyReserved13 => recordOf 0x09 13 (payload [])
  | .emptyReserved14 => recordOf 0x09 14 (payload [])
  | .emptyReserved15 => recordOf 0x09 15 (payload [])
  | .emptyReserved16 => recordOf 0x09 16 (payload [])
  | .emptyReserved17 => recordOf 0x09 17 (payload [])
  | .emptyReserved18 => recordOf 0x09 18 (payload [])
  | .emptyReserved19 => recordOf 0x09 19 (payload [])
  | .emptyReserved21 => recordOf 0x09 21 (payload [])
  | .emptyReserved22 => recordOf 0x09 22 (payload [])
  | .emptyReserved23 => recordOf 0x09 23 (payload [])
  | .emptyReserved25 => recordOf 0x09 25 (payload [])
  | .emptyReserved26 => recordOf 0x09 26 (payload [])
  | .emptyReserved27 => recordOf 0x09 27 (payload [])
  | .emptyReserved29 => recordOf 0x09 29 (payload [])
  | .emptyReserved32 => recordOf 0x09 32 (payload [])
  | .emptyReserved33 => recordOf 0x09 33 (payload [])
  | .emptyReserved34 => recordOf 0x09 34 (payload [])
  | .emptyReserved35 => recordOf 0x09 35 (payload [])
  | .emptyReserved36 => recordOf 0x09 36 (payload [])
  | .emptyReserved37 => recordOf 0x09 37 (payload [])
  | .emptyReserved39 => recordOf 0x09 39 (payload [])
  | .emptyReserved40 => recordOf 0x09 40 (payload [])
  | .emptyReserved41 => recordOf 0x09 41 (payload [])
  | .emptyReserved42 => recordOf 0x09 42 (payload [])
  | .emptyReserved43 => recordOf 0x09 43 (payload [])
  | .emptyReserved44 => recordOf 0x09 44 (payload [])
  | .emptyReserved45 => recordOf 0x09 45 (payload [])
  | .emptyReserved46 => recordOf 0x09 46 (payload [])
  | .emptyReserved47 => recordOf 0x09 47 (payload [])
  | .emptyReserved48 => recordOf 0x09 48 (payload [])
  | .emptyReserved49 => recordOf 0x09 49 (payload [])
  | .emptyReserved50 => recordOf 0x09 50 (payload [])
  | .emptyReserved51 => recordOf 0x09 51 (payload [])
  | .emptyReserved52 => recordOf 0x09 52 (payload [])
  | .emptyReserved53 => recordOf 0x09 53 (payload [])
  | .emptyReserved54 => recordOf 0x09 54 (payload [])
  | .emptyReserved55 => recordOf 0x09 55 (payload [])
  | .emptyReserved56 => recordOf 0x09 56 (payload [])
  | .emptyReserved57 => recordOf 0x09 57 (payload [])
  | .emptyReserved58 => recordOf 0x09 58 (payload [])
  | .emptyReserved59 => recordOf 0x09 59 (payload [])
  | .emptyReserved60 => recordOf 0x09 60 (payload [])
  | .emptyReserved61 => recordOf 0x09 61 (payload [])
  | .emptyReserved62 => recordOf 0x09 62 (payload [])
  | .emptyReserved63 => recordOf 0x09 63 (payload [])
  | .emptyNotcdg00 => recordOf 0 0 (payload [])
  | .emptyNotcdg01 => recordOf 1 0 (payload [])
  | .emptyNotcdg02 => recordOf 2 0 (payload [])
  | .emptyNotcdg03 => recordOf 3 0 (payload [])
  | .emptyNotcdg04 => recordOf 4 0 (payload [])
  | .emptyNotcdg05 => recordOf 5 0 (payload [])
  | .emptyNotcdg06 => recordOf 6 0 (payload [])
  | .emptyNotcdg07 => recordOf 7 0 (payload [])
  | .emptyNotcdg08 => recordOf 8 0 (payload [])
  | .emptyNotcdg10 => recordOf 10 0 (payload [])
  | .emptyNotcdg11 => recordOf 11 0 (payload [])
  | .emptyNotcdg12 => recordOf 12 0 (payload [])
  | .emptyNotcdg13 => recordOf 13 0 (payload [])
  | .emptyNotcdg14 => recordOf 14 0 (payload [])
  | .emptyNotcdg15 => recordOf 15 0 (payload [])
  | .emptyNotcdg16 => recordOf 16 0 (payload [])
  | .emptyNotcdg17 => recordOf 17 0 (payload [])
  | .emptyNotcdg18 => recordOf 18 0 (payload [])
  | .emptyNotcdg19 => recordOf 19 0 (payload [])
  | .emptyNotcdg20 => recordOf 20 0 (payload [])
  | .emptyNotcdg21 => recordOf 21 0 (payload [])
  | .emptyNotcdg22 => recordOf 22 0 (payload [])
  | .emptyNotcdg23 => recordOf 23 0 (payload [])
  | .emptyNotcdg24 => recordOf 24 0 (payload [])
  | .emptyNotcdg25 => recordOf 25 0 (payload [])
  | .emptyNotcdg26 => recordOf 26 0 (payload [])
  | .emptyNotcdg27 => recordOf 27 0 (payload [])
  | .emptyNotcdg28 => recordOf 28 0 (payload [])
  | .emptyNotcdg29 => recordOf 29 0 (payload [])
  | .emptyNotcdg30 => recordOf 30 0 (payload [])
  | .emptyNotcdg31 => recordOf 31 0 (payload [])
  | .emptyNotcdg32 => recordOf 32 0 (payload [])
  | .emptyNotcdg33 => recordOf 33 0 (payload [])
  | .emptyNotcdg34 => recordOf 34 0 (payload [])
  | .emptyNotcdg35 => recordOf 35 0 (payload [])
  | .emptyNotcdg36 => recordOf 36 0 (payload [])
  | .emptyNotcdg37 => recordOf 37 0 (payload [])
  | .emptyNotcdg38 => recordOf 38 0 (payload [])
  | .emptyNotcdg39 => recordOf 39 0 (payload [])
  | .emptyNotcdg40 => recordOf 40 0 (payload [])
  | .emptyNotcdg41 => recordOf 41 0 (payload [])
  | .emptyNotcdg42 => recordOf 42 0 (payload [])
  | .emptyNotcdg43 => recordOf 43 0 (payload [])
  | .emptyNotcdg44 => recordOf 44 0 (payload [])
  | .emptyNotcdg45 => recordOf 45 0 (payload [])
  | .emptyNotcdg46 => recordOf 46 0 (payload [])
  | .emptyNotcdg47 => recordOf 47 0 (payload [])
  | .emptyNotcdg48 => recordOf 48 0 (payload [])
  | .emptyNotcdg49 => recordOf 49 0 (payload [])
  | .emptyNotcdg50 => recordOf 50 0 (payload [])
  | .emptyNotcdg51 => recordOf 51 0 (payload [])
  | .emptyNotcdg52 => recordOf 52 0 (payload [])
  | .emptyNotcdg53 => recordOf 53 0 (payload [])
  | .emptyNotcdg54 => recordOf 54 0 (payload [])
  | .emptyNotcdg55 => recordOf 55 0 (payload [])
  | .emptyNotcdg56 => recordOf 56 0 (payload [])
  | .emptyNotcdg57 => recordOf 57 0 (payload [])
  | .emptyNotcdg58 => recordOf 58 0 (payload [])
  | .emptyNotcdg59 => recordOf 59 0 (payload [])
  | .emptyNotcdg60 => recordOf 60 0 (payload [])
  | .emptyNotcdg61 => recordOf 61 0 (payload [])
  | .emptyNotcdg62 => recordOf 62 0 (payload [])
  | .emptyNotcdg63 => recordOf 63 0 (payload [])

end Sys2Proof
end

