-- ==== Sys2Proof/Config.lean ====
section
/-! DEFINITION. What an implementation of the block fixes and the spec leaves open: the two reset contents, and
nothing else (spec/00_scope.md R5, spec/10_state.md R23, spec/92_eei_decisions.md D3 and D4,
spec/93_implementation_defined.md U13 and U14). All other parameters are the fixed numbers of R4 and stand in the
definitions as numerals, as in the spec's own pseudocode. -/

namespace Sys2Proof

/-- `FB_RESET(y, x)`: the framebuffer's content after reset. It has no body, so that nothing about it can be proved:
a claim holds for every choice of it (R5). DESIGN CHOICE (safe): assumption log 3. -/
opaque Config.fbReset : Fin 216 → Fin 300 → ColorIndex

/-- `CT_RESET(i)`: the colour table's content after reset. It has no body, so that nothing about it can be proved:
a claim holds for every choice of it (R5). DESIGN CHOICE (safe): assumption log 4. -/
opaque Config.ctReset : Fin 16 → Rgb

end Sys2Proof
end

