-- ==== Sys2Proof/Machine/State.lean ====
section
/-! DEFINITION. The state: the Display State, which is the block's whole architectural state
(spec/10_state.md R9), and beside it the block's interfaces to its environment (spec/70_reset_and_hazards.md R121). -/

namespace Sys2Proof.Machine

/-- Why a step could stop the machine. There is no constructor: the block never ends the run on its own account (R111)
and every step returns (R8). The one failure, `OutOfRange`, is a step's status and stops nothing (R102, R110).
DEDUCED (safe): assumption log 9. -/
inductive Fault : Type
  deriving DecidableEq, Repr

/-- Why an instruction could have no meaning. -/
inductive Refusal where
  /-- Raised by an arm of `exec` whose instruction has no meaning yet. Safe: the machine stops where the hardware goes
  on. No arm raises it: every row of the opcode table has its meaning. -/
  | notModelled (mnemonic : String)
  deriving DecidableEq, Repr

/-- The status of a step: `OK`, or the one failure `OutOfRange` (R102, R104). -/
inductive Status where
  | ok
  | outOfRange
  deriving DecidableEq, Repr

/-- What leaves the block in one step, at the decoder output and at the status output (R2, R121). -/
structure StepResult where
  instr : TypedInstr
  status : Status
  deriving DecidableEq, Repr

/-- What the environment hands the block: the next raw record at the record input, or the reset input (R121). -/
inductive Event where
  | record (rec : Record)
  | reset
  deriving DecidableEq, Repr

/-- The framebuffer: 216 rows of 300 cells, row 0 on top, column 0 leftmost (R17, R25, R26).
DESIGN CHOICE (safe): assumption log 18. -/
abbrev Framebuffer := Vector (Vector ColorIndex 300) 216

/-- The colour table: 16 entries, the low bank 0 to 7 and the high bank 8 to 15 (R16). -/
abbrev ColorTable := Vector Rgb 16

/-- The Display State, with exactly the five members of R9. -/
structure Display where
  framebuffer : Framebuffer
  colorTable : ColorTable
  bgColor : ColorIndex
  borderColor : ColorIndex
  transparentColor : ColorIndex
  deriving DecidableEq, Repr

/-- The Display State, and the model's own two fields for the block's interfaces (DESIGN CHOICE, safe: assumption log
2): `input` is what the environment will hand over next, oldest first; `results` is what has left at the decoder and
status outputs, oldest first (R121, R129). -/
structure State where
  display : Display
  input : List Event
  results : List StepResult
  deriving DecidableEq, Repr

/-- The Display State after reset (R22, R23, R116). -/
def Display.reset : Display where
  framebuffer := tabulate fun y => tabulate fun x => Config.fbReset y x
  colorTable := tabulate fun i => Config.ctReset i
  bgColor := 0
  borderColor := 0
  transparentColor := 0

/-- The machine right after reset: the Display State of R116, no record handed over yet, nothing put out yet. -/
def State.reset : State where
  display := Display.reset
  input := []
  results := []

end Sys2Proof.Machine
end

