-- ==== Sys2Proof/Machine/Ops.lean ====
section
/-! DEFINITION. The named operations on the state: reading and rewriting the framebuffer and the colour table, ending
a step with success or with the one exception, and taking the next event from the environment. -/

namespace Sys2Proof.Machine

/-! ### The framebuffer -/

/-- `FB[y][x]`: read one cell (R25, R36). -/
def Framebuffer.get (fb : Framebuffer) (y : Fin 216) (x : Fin 300) : ColorIndex := (fb[y])[x]

/-- The framebuffer whose cell `(y, x)` is `f y x`: every apply rule computes the new framebuffer from the old one as
one assignment (R38). -/
def Framebuffer.ofCells (f : Fin 216 → Fin 300 → ColorIndex) : Framebuffer := tabulate fun y => tabulate fun x => f y x

/-- `FB[y][x]` at integer coordinates, none outside the grid (R31, R35). -/
def Framebuffer.get? (fb : Framebuffer) (y x : Int) : Option ColorIndex :=
  if h : 0 ≤ y ∧ y ≤ 215 ∧ 0 ≤ x ∧ x ≤ 299 then
    some (fb.get ⟨y.toNat, by omega⟩ ⟨x.toNat, by omega⟩)
  else none

/-- The border region (R27; the widths 3 and 6 are UNVERIFIED beyond the spec's source, unsafe: assumption log 12). -/
def isBorder (y : Fin 216) (x : Fin 300) : Bool := x.val < 3 || 297 ≤ x.val || y.val < 6 || 210 ≤ y.val

/-- Replace every cell by `c` (R74). -/
def Framebuffer.fill (c : ColorIndex) : Framebuffer := .ofCells fun _ _ => c

/-- Replace every cell of the border region by `c` and leave the interior (R76). -/
def Framebuffer.fillBorder (fb : Framebuffer) (c : ColorIndex) : Framebuffer :=
  .ofCells fun y x => if isBorder y x then c else fb.get y x

/-- Rewrite the cells of tile `(row, column)`, and no other: the cell `(row*12 + i, column*6 + j)` becomes `new i j old`
(R29, R81, R82). -/
def Framebuffer.paintTile (fb : Framebuffer) (row column : Nat) (new : Fin 12 → Fin 6 → ColorIndex → ColorIndex) :
    Framebuffer :=
  .ofCells fun y x =>
    if h : row * 12 ≤ y.val ∧ y.val < row * 12 + 12 ∧ column * 6 ≤ x.val ∧ x.val < column * 6 + 6 then
      new ⟨y.val - row * 12, by omega⟩ ⟨x.val - column * 6, by omega⟩ (fb.get y x)
    else fb.get y x

/-- Move the picture by `(dy, dx)`; a cell whose source lies outside the grid becomes `c` (R94). -/
def Framebuffer.shift (fb : Framebuffer) (dy dx : Int) (c : ColorIndex) : Framebuffer :=
  .ofCells fun y x => (fb.get? (y.val - dy) (x.val - dx)).getD c

/-- A row number reduced modulo 216, always in range (R31, R95). -/
def wrapRow (y : Int) : Fin 216 := ⟨(y % 216).toNat, by omega⟩

/-- A column number reduced modulo 300, always in range (R31, R95). -/
def wrapColumn (x : Int) : Fin 300 := ⟨(x % 300).toNat, by omega⟩

/-- Rotate the picture by `(dy, dx)` (R95; UNVERIFIED beyond the spec's decision D6, unsafe: assumption log 10). -/
def Framebuffer.rotate (fb : Framebuffer) (dy dx : Int) : Framebuffer :=
  .ofCells fun y x => fb.get (wrapRow (y.val - dy)) (wrapColumn (x.val - dx))

/-! ### The colour table -/

/-- Replace the low bank, entries 0 to 7 (R88). -/
def ColorTable.setLow (ct : ColorTable) (entries : Vector Rgb 8) : ColorTable :=
  tabulate fun i => if h : i.val < 8 then entries[i.val] else ct[i]

/-- Replace the high bank, entries 8 to 15 (R89). -/
def ColorTable.setHigh (ct : ColorTable) (entries : Vector Rgb 8) : ColorTable :=
  tabulate fun i => if h : 8 ≤ i.val then entries[i.val - 8] else ct[i]

/-! ### Ending a step -/

/-- A step that ends with status `OK` and the given Display State. -/
def succeed (d : Display) : Status × Display := (.ok, d)

/-- Taking the one exception: `raise OutOfRange()` ends the step with status `OutOfRange` and the Display State exactly
as it was before the step. It saves nothing, changes no mode, goes nowhere and is not sticky; there is nothing to return
from (R102, R105, R109, R110). DEDUCED (safe): assumption log 8. -/
def raiseOutOfRange (d : Display) : Status × Display := (.outOfRange, d)

/-- The end of a step: the Display State is the one the apply rule gives, and the typed instruction and the status
leave the block (R2, R121). -/
def State.emit (s : State) (t : TypedInstr) (r : Status × Display) : State :=
  { s with display := r.2, results := s.results ++ [⟨t, r.1⟩] }

/-! ### The environment -/

/-- Between steps, with no record handed over, the block holds its state (R115). DEDUCED (safe): assumption log 6. -/
def State.hold (s : State) : State := s

/-- The record at the head of the input is taken; `rest` waits behind it (R11, R39). -/
def State.takeRecord (s : State) (rest : List Event) : State := { s with input := rest }

/-- The reset input at a step boundary: the Display State takes its reset value, and nothing else happens (R116).
DESIGN CHOICE (safe) for `results`: assumption log 14. -/
def State.takeReset (s : State) (rest : List Event) : State := { s with display := Display.reset, input := rest }

/-- The packet source hands over this record as the next one. -/
def State.supply (s : State) (rec : Record) : State := { s with input := .record rec :: s.input }

end Sys2Proof.Machine
end

