-- ==== Sys2Proof/Machine/DefineTransparent.lean ====
section
/-! DEFINITION. DefineTransparent (spec/45_define_transparent.md). -/

namespace Sys2Proof.Machine

/-- DefineTransparent, apply: `transparent_color` becomes `color` (R101). -/
def applyDefineTransparent (color : ColorIndex) (d : Display) : Status × Display :=
  succeed { d with transparentColor := color }

/-- DefineTransparent (R101). -/
def execDefineTransparent (color : ColorIndex) (s : State) : Host.Outcome State Fault Refusal :=
  .next (s.emit (.defineTransparent color) (applyDefineTransparent color s.display))

end Sys2Proof.Machine
end

