-- ==== Sys2Proof/Machine/Empty.lean ====
section
/-! DEFINITION. Empty: no operands, nothing read or written, status OK (spec/40_decoder_common.md R71). One meaning for
each of the opcode table's 133 Empty rows, every one a single line over the shared `applyEmpty`. -/

namespace Sys2Proof.Machine

/-- Empty, apply: "no-op, returns success" (R71). -/
def applyEmpty (d : Display) : Status × Display := succeed d

/-- Memory preset with repeat count 1 (R56): no effect, status OK (R71). -/
def execEmptyRepeat01 (s : State) : Host.Outcome State Fault Refusal :=
  .next (s.emit .empty (applyEmpty s.display))

/-- Memory preset with repeat count 2 (R56): no effect, status OK (R71). -/
def execEmptyRepeat02 (s : State) : Host.Outcome State Fault Refusal :=
  .next (s.emit .empty (applyEmpty s.display))

/-- Memory preset with repeat count 3 (R56): no effect, status OK (R71). -/
def execEmptyRepeat03 (s : State) : Host.Outcome State Fault Refusal :=
  .next (s.emit .empty (applyEmpty s.display))

/-- Memory preset with repeat count 4 (R56): no effect, status OK (R71). -/
def execEmptyRepeat04 (s : State) : Host.Outcome State Fault Refusal :=
  .next (s.emit .empty (applyEmpty s.display))

/-- Memory preset with repeat count 5 (R56): no effect, status OK (R71). -/
def execEmptyRepeat05 (s : State) : Host.Outcome State Fault Refusal :=
  .next (s.emit .empty (applyEmpty s.display))

/-- Memory preset with repeat count 6 (R56): no effect, status OK (R71). -/
def execEmptyRepeat06 (s : State) : Host.Outcome State Fault Refusal :=
  .next (s.emit .empty (applyEmpty s.display))

/-- Memory preset with repeat count 7 (R56): no effect, status OK (R71). -/
def execEmptyRepeat07 (s : State) : Host.Outcome State Fault Refusal :=
  .next (s.emit .empty (applyEmpty s.display))

/-- Memory preset with repeat count 8 (R56): no effect, status OK (R71). -/
def execEmptyRepeat08 (s : State) : Host.Outcome State Fault Refusal :=
  .next (s.emit .empty (applyEmpty s.display))

/-- Memory preset with repeat count 9 (R56): no effect, status OK (R71). -/
def execEmptyRepeat09 (s : State) : Host.Outcome State Fault Refusal :=
  .next (s.emit .empty (applyEmpty s.display))

/-- Memory preset with repeat count 10 (R56): no effect, status OK (R71). -/
def execEmptyRepeat10 (s : State) : Host.Outcome State Fault Refusal :=
  .next (s.emit .empty (applyEmpty s.display))

/-- Memory preset with repeat count 11 (R56): no effect, status OK (R71). -/
def execEmptyRepeat11 (s : State) : Host.Outcome State Fault Refusal :=
  .next (s.emit .empty (applyEmpty s.display))

/-- Memory preset with repeat count 12 (R56): no effect, status OK (R71). -/
def execEmptyRepeat12 (s : State) : Host.Outcome State Fault Refusal :=
  .next (s.emit .empty (applyEmpty s.display))

/-- Memory preset with repeat count 13 (R56): no effect, status OK (R71). -/
def execEmptyRepeat13 (s : State) : Host.Outcome State Fault Refusal :=
  .next (s.emit .empty (applyEmpty s.display))

/-- Memory preset with repeat count 14 (R56): no effect, status OK (R71). -/
def execEmptyRepeat14 (s : State) : Host.Outcome State Fault Refusal :=
  .next (s.emit .empty (applyEmpty s.display))

/-- Memory preset with repeat count 15 (R56): no effect, status OK (R71). -/
def execEmptyRepeat15 (s : State) : Host.Outcome State Fault Refusal :=
  .next (s.emit .empty (applyEmpty s.display))

/-- Reserved instruction code 0 (R54): no effect, status OK (R71). -/
def execEmptyReserved00 (s : State) : Host.Outcome State Fault Refusal :=
  .next (s.emit .empty (applyEmpty s.display))

/-- Reserved instruction code 3 (R54): no effect, status OK (R71). -/
def execEmptyReserved03 (s : State) : Host.Outcome State Fault Refusal :=
  .next (s.emit .empty (applyEmpty s.display))

/-- Reserved instruction code 4 (R54): no effect, status OK (R71). -/
def execEmptyReserved04 (s : State) : Host.Outcome State Fault Refusal :=
  .next (s.emit .empty (applyEmpty s.display))

/-- Reserved instruction code 5 (R54): no effect, status OK (R71). -/
def execEmptyReserved05 (s : State) : Host.Outcome State Fault Refusal :=
  .next (s.emit .empty (applyEmpty s.display))

/-- Reserved instruction code 7 (R54): no effect, status OK (R71). -/
def execEmptyReserved07 (s : State) : Host.Outcome State Fault Refusal :=
  .next (s.emit .empty (applyEmpty s.display))

/-- Reserved instruction code 8 (R54): no effect, status OK (R71). -/
def execEmptyReserved08 (s : State) : Host.Outcome State Fault Refusal :=
  .next (s.emit .empty (applyEmpty s.display))

/-- Reserved instruction code 9 (R54): no effect, status OK (R71). -/
def execEmptyReserved09 (s : State) : Host.Outcome State Fault Refusal :=
  .next (s.emit .empty (applyEmpty s.display))

/-- Reserved instruction code 10 (R54): no effect, status OK (R71). -/
def execEmptyReserved10 (s : State) : Host.Outcome State Fault Refusal :=
  .next (s.emit .empty (applyEmpty s.display))

/-- Reserved instruction code 11 (R54): no effect, status OK (R71). -/
def execEmptyReserved11 (s : State) : Host.Outcome State Fault Refusal :=
  .next (s.emit .empty (applyEmpty s.display))

/-- Reserved instruction code 12 (R54): no effect, status OK (R71). -/
def execEmptyReserved12 (s : State) : Host.Outcome State Fault Refusal :=
  .next (s.emit .empty (applyEmpty s.display))

/-- Reserved instruction code 13 (R54): no effect, status OK (R71). -/
def execEmptyReserved13 (s : State) : Host.Outcome State Fault Refusal :=
  .next (s.emit .empty (applyEmpty s.display))

/-- Reserved instruction code 14 (R54): no effect, status OK (R71). -/
def execEmptyReserved14 (s : State) : Host.Outcome State Fault Refusal :=
  .next (s.emit .empty (applyEmpty s.display))

/-- Reserved instruction code 15 (R54): no effect, status OK (R71). -/
def execEmptyReserved15 (s : State) : Host.Outcome State Fault Refusal :=
  .next (s.emit .empty (applyEmpty s.display))

/-- Reserved instruction code 16 (R54): no effect, status OK (R71). -/
def execEmptyReserved16 (s : State) : Host.Outcome State Fault Refusal :=
  .next (s.emit .empty (applyEmpty s.display))

/-- Reserved instruction code 17 (R54): no effect, status OK (R71). -/
def execEmptyReserved17 (s : State) : Host.Outcome State Fault Refusal :=
  .next (s.emit .empty (applyEmpty s.display))

/-- Reserved instruction code 18 (R54): no effect, status OK (R71). -/
def execEmptyReserved18 (s : State) : Host.Outcome State Fault Refusal :=
  .next (s.emit .empty (applyEmpty s.display))

/-- Reserved instruction code 19 (R54): no effect, status OK (R71). -/
def execEmptyReserved19 (s : State) : Host.Outcome State Fault Refusal :=
  .next (s.emit .empty (applyEmpty s.display))

/-- Reserved instruction code 21 (R54): no effect, status OK (R71). -/
def execEmptyReserved21 (s : State) : Host.Outcome State Fault Refusal :=
  .next (s.emit .empty (applyEmpty s.display))

/-- Reserved instruction code 22 (R54): no effect, status OK (R71). -/
def execEmptyReserved22 (s : State) : Host.Outcome State Fault Refusal :=
  .next (s.emit .empty (applyEmpty s.display))

/-- Reserved instruction code 23 (R54): no effect, status OK (R71). -/
def execEmptyReserved23 (s : State) : Host.Outcome State Fault Refusal :=
  .next (s.emit .empty (applyEmpty s.display))

/-- Reserved instruction code 25 (R54): no effect, status OK (R71). -/
def execEmptyReserved25 (s : State) : Host.Outcome State Fault Refusal :=
  .next (s.emit .empty (applyEmpty s.display))

/-- Reserved instruction code 26 (R54): no effect, status OK (R71). -/
def execEmptyReserved26 (s : State) : Host.Outcome State Fault Refusal :=
  .next (s.emit .empty (applyEmpty s.display))

/-- Reserved instruction code 27 (R54): no effect, status OK (R71). -/
def execEmptyReserved27 (s : State) : Host.Outcome State Fault Refusal :=
  .next (s.emit .empty (applyEmpty s.display))

/-- Reserved instruction code 29 (R54): no effect, status OK (R71). -/
def execEmptyReserved29 (s : State) : Host.Outcome State Fault Refusal :=
  .next (s.emit .empty (applyEmpty s.display))

/-- Reserved instruction code 32 (R54): no effect, status OK (R71). -/
def execEmptyReserved32 (s : State) : Host.Outcome State Fault Refusal :=
  .next (s.emit .empty (applyEmpty s.display))

/-- Reserved instruction code 33 (R54): no effect, status OK (R71). -/
def execEmptyReserved33 (s : State) : Host.Outcome State Fault Refusal :=
  .next (s.emit .empty (applyEmpty s.display))

/-- Reserved instruction code 34 (R54): no effect, status OK (R71). -/
def execEmptyReserved34 (s : State) : Host.Outcome State Fault Refusal :=
  .next (s.emit .empty (applyEmpty s.display))

/-- Reserved instruction code 35 (R54): no effect, status OK (R71). -/
def execEmptyReserved35 (s : State) : Host.Outcome State Fault Refusal :=
  .next (s.emit .empty (applyEmpty s.display))

/-- Reserved instruction code 36 (R54): no effect, status OK (R71). -/
def execEmptyReserved36 (s : State) : Host.Outcome State Fault Refusal :=
  .next (s.emit .empty (applyEmpty s.display))

/-- Reserved instruction code 37 (R54): no effect, status OK (R71). -/
def execEmptyReserved37 (s : State) : Host.Outcome State Fault Refusal :=
  .next (s.emit .empty (applyEmpty s.display))

/-- Reserved instruction code 39 (R54): no effect, status OK (R71). -/
def execEmptyReserved39 (s : State) : Host.Outcome State Fault Refusal :=
  .next (s.emit .empty (applyEmpty s.display))

/-- Reserved instruction code 40 (R54): no effect, status OK (R71). -/
def execEmptyReserved40 (s : State) : Host.Outcome State Fault Refusal :=
  .next (s.emit .empty (applyEmpty s.display))

/-- Reserved instruction code 41 (R54): no effect, status OK (R71). -/
def execEmptyReserved41 (s : State) : Host.Outcome State Fault Refusal :=
  .next (s.emit .empty (applyEmpty s.display))

/-- Reserved instruction code 42 (R54): no effect, status OK (R71). -/
def execEmptyReserved42 (s : State) : Host.Outcome State Fault Refusal :=
  .next (s.emit .empty (applyEmpty s.display))

/-- Reserved instruction code 43 (R54): no effect, status OK (R71). -/
def execEmptyReserved43 (s : State) : Host.Outcome State Fault Refusal :=
  .next (s.emit .empty (applyEmpty s.display))

/-- Reserved instruction code 44 (R54): no effect, status OK (R71). -/
def execEmptyReserved44 (s : State) : Host.Outcome State Fault Refusal :=
  .next (s.emit .empty (applyEmpty s.display))

/-- Reserved instruction code 45 (R54): no effect, status OK (R71). -/
def execEmptyReserved45 (s : State) : Host.Outcome State Fault Refusal :=
  .next (s.emit .empty (applyEmpty s.display))

/-- Reserved instruction code 46 (R54): no effect, status OK (R71). -/
def execEmptyReserved46 (s : State) : Host.Outcome State Fault Refusal :=
  .next (s.emit .empty (applyEmpty s.display))

/-- Reserved instruction code 47 (R54): no effect, status OK (R71). -/
def execEmptyReserved47 (s : State) : Host.Outcome State Fault Refusal :=
  .next (s.emit .empty (applyEmpty s.display))

/-- Reserved instruction code 48 (R54): no effect, status OK (R71). -/
def execEmptyReserved48 (s : State) : Host.Outcome State Fault Refusal :=
  .next (s.emit .empty (applyEmpty s.display))

/-- Reserved instruction code 49 (R54): no effect, status OK (R71). -/
def execEmptyReserved49 (s : State) : Host.Outcome State Fault Refusal :=
  .next (s.emit .empty (applyEmpty s.display))

/-- Reserved instruction code 50 (R54): no effect, status OK (R71). -/
def execEmptyReserved50 (s : State) : Host.Outcome State Fault Refusal :=
  .next (s.emit .empty (applyEmpty s.display))

/-- Reserved instruction code 51 (R54): no effect, status OK (R71). -/
def execEmptyReserved51 (s : State) : Host.Outcome State Fault Refusal :=
  .next (s.emit .empty (applyEmpty s.display))

/-- Reserved instruction code 52 (R54): no effect, status OK (R71). -/
def execEmptyReserved52 (s : State) : Host.Outcome State Fault Refusal :=
  .next (s.emit .empty (applyEmpty s.display))

/-- Reserved instruction code 53 (R54): no effect, status OK (R71). -/
def execEmptyReserved53 (s : State) : Host.Outcome State Fault Refusal :=
  .next (s.emit .empty (applyEmpty s.display))

/-- Reserved instruction code 54 (R54): no effect, status OK (R71). -/
def execEmptyReserved54 (s : State) : Host.Outcome State Fault Refusal :=
  .next (s.emit .empty (applyEmpty s.display))

/-- Reserved instruction code 55 (R54): no effect, status OK (R71). -/
def execEmptyReserved55 (s : State) : Host.Outcome State Fault Refusal :=
  .next (s.emit .empty (applyEmpty s.display))

/-- Reserved instruction code 56 (R54): no effect, status OK (R71). -/
def execEmptyReserved56 (s : State) : Host.Outcome State Fault Refusal :=
  .next (s.emit .empty (applyEmpty s.display))

/-- Reserved instruction code 57 (R54): no effect, status OK (R71). -/
def execEmptyReserved57 (s : State) : Host.Outcome State Fault Refusal :=
  .next (s.emit .empty (applyEmpty s.display))

/-- Reserved instruction code 58 (R54): no effect, status OK (R71). -/
def execEmptyReserved58 (s : State) : Host.Outcome State Fault Refusal :=
  .next (s.emit .empty (applyEmpty s.display))

/-- Reserved instruction code 59 (R54): no effect, status OK (R71). -/
def execEmptyReserved59 (s : State) : Host.Outcome State Fault Refusal :=
  .next (s.emit .empty (applyEmpty s.display))

/-- Reserved instruction code 60 (R54): no effect, status OK (R71). -/
def execEmptyReserved60 (s : State) : Host.Outcome State Fault Refusal :=
  .next (s.emit .empty (applyEmpty s.display))

/-- Reserved instruction code 61 (R54): no effect, status OK (R71). -/
def execEmptyReserved61 (s : State) : Host.Outcome State Fault Refusal :=
  .next (s.emit .empty (applyEmpty s.display))

/-- Reserved instruction code 62 (R54): no effect, status OK (R71). -/
def execEmptyReserved62 (s : State) : Host.Outcome State Fault Refusal :=
  .next (s.emit .empty (applyEmpty s.display))

/-- Reserved instruction code 63 (R54): no effect, status OK (R71). -/
def execEmptyReserved63 (s : State) : Host.Outcome State Fault Refusal :=
  .next (s.emit .empty (applyEmpty s.display))

/-- Command field 0, not a CD+G record (R55): no effect, status OK (R71). -/
def execEmptyNotcdg00 (s : State) : Host.Outcome State Fault Refusal :=
  .next (s.emit .empty (applyEmpty s.display))

/-- Command field 1, not a CD+G record (R55): no effect, status OK (R71). -/
def execEmptyNotcdg01 (s : State) : Host.Outcome State Fault Refusal :=
  .next (s.emit .empty (applyEmpty s.display))

/-- Command field 2, not a CD+G record (R55): no effect, status OK (R71). -/
def execEmptyNotcdg02 (s : State) : Host.Outcome State Fault Refusal :=
  .next (s.emit .empty (applyEmpty s.display))

/-- Command field 3, not a CD+G record (R55): no effect, status OK (R71). -/
def execEmptyNotcdg03 (s : State) : Host.Outcome State Fault Refusal :=
  .next (s.emit .empty (applyEmpty s.display))

/-- Command field 4, not a CD+G record (R55): no effect, status OK (R71). -/
def execEmptyNotcdg04 (s : State) : Host.Outcome State Fault Refusal :=
  .next (s.emit .empty (applyEmpty s.display))

/-- Command field 5, not a CD+G record (R55): no effect, status OK (R71). -/
def execEmptyNotcdg05 (s : State) : Host.Outcome State Fault Refusal :=
  .next (s.emit .empty (applyEmpty s.display))

/-- Command field 6, not a CD+G record (R55): no effect, status OK (R71). -/
def execEmptyNotcdg06 (s : State) : Host.Outcome State Fault Refusal :=
  .next (s.emit .empty (applyEmpty s.display))

/-- Command field 7, not a CD+G record (R55): no effect, status OK (R71). -/
def execEmptyNotcdg07 (s : State) : Host.Outcome State Fault Refusal :=
  .next (s.emit .empty (applyEmpty s.display))

/-- Command field 8, not a CD+G record (R55): no effect, status OK (R71). -/
def execEmptyNotcdg08 (s : State) : Host.Outcome State Fault Refusal :=
  .next (s.emit .empty (applyEmpty s.display))

/-- Command field 10, not a CD+G record (R55): no effect, status OK (R71). -/
def execEmptyNotcdg10 (s : State) : Host.Outcome State Fault Refusal :=
  .next (s.emit .empty (applyEmpty s.display))

/-- Command field 11, not a CD+G record (R55): no effect, status OK (R71). -/
def execEmptyNotcdg11 (s : State) : Host.Outcome State Fault Refusal :=
  .next (s.emit .empty (applyEmpty s.display))

/-- Command field 12, not a CD+G record (R55): no effect, status OK (R71). -/
def execEmptyNotcdg12 (s : State) : Host.Outcome State Fault Refusal :=
  .next (s.emit .empty (applyEmpty s.display))

/-- Command field 13, not a CD+G record (R55): no effect, status OK (R71). -/
def execEmptyNotcdg13 (s : State) : Host.Outcome State Fault Refusal :=
  .next (s.emit .empty (applyEmpty s.display))

/-- Command field 14, not a CD+G record (R55): no effect, status OK (R71). -/
def execEmptyNotcdg14 (s : State) : Host.Outcome State Fault Refusal :=
  .next (s.emit .empty (applyEmpty s.display))

/-- Command field 15, not a CD+G record (R55): no effect, status OK (R71). -/
def execEmptyNotcdg15 (s : State) : Host.Outcome State Fault Refusal :=
  .next (s.emit .empty (applyEmpty s.display))

/-- Command field 16, not a CD+G record (R55): no effect, status OK (R71). -/
def execEmptyNotcdg16 (s : State) : Host.Outcome State Fault Refusal :=
  .next (s.emit .empty (applyEmpty s.display))

/-- Command field 17, not a CD+G record (R55): no effect, status OK (R71). -/
def execEmptyNotcdg17 (s : State) : Host.Outcome State Fault Refusal :=
  .next (s.emit .empty (applyEmpty s.display))

/-- Command field 18, not a CD+G record (R55): no effect, status OK (R71). -/
def execEmptyNotcdg18 (s : State) : Host.Outcome State Fault Refusal :=
  .next (s.emit .empty (applyEmpty s.display))

/-- Command field 19, not a CD+G record (R55): no effect, status OK (R71). -/
def execEmptyNotcdg19 (s : State) : Host.Outcome State Fault Refusal :=
  .next (s.emit .empty (applyEmpty s.display))

/-- Command field 20, not a CD+G record (R55): no effect, status OK (R71). -/
def execEmptyNotcdg20 (s : State) : Host.Outcome State Fault Refusal :=
  .next (s.emit .empty (applyEmpty s.display))

/-- Command field 21, not a CD+G record (R55): no effect, status OK (R71). -/
def execEmptyNotcdg21 (s : State) : Host.Outcome State Fault Refusal :=
  .next (s.emit .empty (applyEmpty s.display))

/-- Command field 22, not a CD+G record (R55): no effect, status OK (R71). -/
def execEmptyNotcdg22 (s : State) : Host.Outcome State Fault Refusal :=
  .next (s.emit .empty (applyEmpty s.display))

/-- Command field 23, not a CD+G record (R55): no effect, status OK (R71). -/
def execEmptyNotcdg23 (s : State) : Host.Outcome State Fault Refusal :=
  .next (s.emit .empty (applyEmpty s.display))

/-- Command field 24, not a CD+G record (R55): no effect, status OK (R71). -/
def execEmptyNotcdg24 (s : State) : Host.Outcome State Fault Refusal :=
  .next (s.emit .empty (applyEmpty s.display))

/-- Command field 25, not a CD+G record (R55): no effect, status OK (R71). -/
def execEmptyNotcdg25 (s : State) : Host.Outcome State Fault Refusal :=
  .next (s.emit .empty (applyEmpty s.display))

/-- Command field 26, not a CD+G record (R55): no effect, status OK (R71). -/
def execEmptyNotcdg26 (s : State) : Host.Outcome State Fault Refusal :=
  .next (s.emit .empty (applyEmpty s.display))

/-- Command field 27, not a CD+G record (R55): no effect, status OK (R71). -/
def execEmptyNotcdg27 (s : State) : Host.Outcome State Fault Refusal :=
  .next (s.emit .empty (applyEmpty s.display))

/-- Command field 28, not a CD+G record (R55): no effect, status OK (R71). -/
def execEmptyNotcdg28 (s : State) : Host.Outcome State Fault Refusal :=
  .next (s.emit .empty (applyEmpty s.display))

/-- Command field 29, not a CD+G record (R55): no effect, status OK (R71). -/
def execEmptyNotcdg29 (s : State) : Host.Outcome State Fault Refusal :=
  .next (s.emit .empty (applyEmpty s.display))

/-- Command field 30, not a CD+G record (R55): no effect, status OK (R71). -/
def execEmptyNotcdg30 (s : State) : Host.Outcome State Fault Refusal :=
  .next (s.emit .empty (applyEmpty s.display))

/-- Command field 31, not a CD+G record (R55): no effect, status OK (R71). -/
def execEmptyNotcdg31 (s : State) : Host.Outcome State Fault Refusal :=
  .next (s.emit .empty (applyEmpty s.display))

/-- Command field 32, not a CD+G record (R55): no effect, status OK (R71). -/
def execEmptyNotcdg32 (s : State) : Host.Outcome State Fault Refusal :=
  .next (s.emit .empty (applyEmpty s.display))

/-- Command field 33, not a CD+G record (R55): no effect, status OK (R71). -/
def execEmptyNotcdg33 (s : State) : Host.Outcome State Fault Refusal :=
  .next (s.emit .empty (applyEmpty s.display))

/-- Command field 34, not a CD+G record (R55): no effect, status OK (R71). -/
def execEmptyNotcdg34 (s : State) : Host.Outcome State Fault Refusal :=
  .next (s.emit .empty (applyEmpty s.display))

/-- Command field 35, not a CD+G record (R55): no effect, status OK (R71). -/
def execEmptyNotcdg35 (s : State) : Host.Outcome State Fault Refusal :=
  .next (s.emit .empty (applyEmpty s.display))

/-- Command field 36, not a CD+G record (R55): no effect, status OK (R71). -/
def execEmptyNotcdg36 (s : State) : Host.Outcome State Fault Refusal :=
  .next (s.emit .empty (applyEmpty s.display))

/-- Command field 37, not a CD+G record (R55): no effect, status OK (R71). -/
def execEmptyNotcdg37 (s : State) : Host.Outcome State Fault Refusal :=
  .next (s.emit .empty (applyEmpty s.display))

/-- Command field 38, not a CD+G record (R55): no effect, status OK (R71). -/
def execEmptyNotcdg38 (s : State) : Host.Outcome State Fault Refusal :=
  .next (s.emit .empty (applyEmpty s.display))

/-- Command field 39, not a CD+G record (R55): no effect, status OK (R71). -/
def execEmptyNotcdg39 (s : State) : Host.Outcome State Fault Refusal :=
  .next (s.emit .empty (applyEmpty s.display))

/-- Command field 40, not a CD+G record (R55): no effect, status OK (R71). -/
def execEmptyNotcdg40 (s : State) : Host.Outcome State Fault Refusal :=
  .next (s.emit .empty (applyEmpty s.display))

/-- Command field 41, not a CD+G record (R55): no effect, status OK (R71). -/
def execEmptyNotcdg41 (s : State) : Host.Outcome State Fault Refusal :=
  .next (s.emit .empty (applyEmpty s.display))

/-- Command field 42, not a CD+G record (R55): no effect, status OK (R71). -/
def execEmptyNotcdg42 (s : State) : Host.Outcome State Fault Refusal :=
  .next (s.emit .empty (applyEmpty s.display))

/-- Command field 43, not a CD+G record (R55): no effect, status OK (R71). -/
def execEmptyNotcdg43 (s : State) : Host.Outcome State Fault Refusal :=
  .next (s.emit .empty (applyEmpty s.display))

/-- Command field 44, not a CD+G record (R55): no effect, status OK (R71). -/
def execEmptyNotcdg44 (s : State) : Host.Outcome State Fault Refusal :=
  .next (s.emit .empty (applyEmpty s.display))

/-- Command field 45, not a CD+G record (R55): no effect, status OK (R71). -/
def execEmptyNotcdg45 (s : State) : Host.Outcome State Fault Refusal :=
  .next (s.emit .empty (applyEmpty s.display))

/-- Command field 46, not a CD+G record (R55): no effect, status OK (R71). -/
def execEmptyNotcdg46 (s : State) : Host.Outcome State Fault Refusal :=
  .next (s.emit .empty (applyEmpty s.display))

/-- Command field 47, not a CD+G record (R55): no effect, status OK (R71). -/
def execEmptyNotcdg47 (s : State) : Host.Outcome State Fault Refusal :=
  .next (s.emit .empty (applyEmpty s.display))

/-- Command field 48, not a CD+G record (R55): no effect, status OK (R71). -/
def execEmptyNotcdg48 (s : State) : Host.Outcome State Fault Refusal :=
  .next (s.emit .empty (applyEmpty s.display))

/-- Command field 49, not a CD+G record (R55): no effect, status OK (R71). -/
def execEmptyNotcdg49 (s : State) : Host.Outcome State Fault Refusal :=
  .next (s.emit .empty (applyEmpty s.display))

/-- Command field 50, not a CD+G record (R55): no effect, status OK (R71). -/
def execEmptyNotcdg50 (s : State) : Host.Outcome State Fault Refusal :=
  .next (s.emit .empty (applyEmpty s.display))

/-- Command field 51, not a CD+G record (R55): no effect, status OK (R71). -/
def execEmptyNotcdg51 (s : State) : Host.Outcome State Fault Refusal :=
  .next (s.emit .empty (applyEmpty s.display))

/-- Command field 52, not a CD+G record (R55): no effect, status OK (R71). -/
def execEmptyNotcdg52 (s : State) : Host.Outcome State Fault Refusal :=
  .next (s.emit .empty (applyEmpty s.display))

/-- Command field 53, not a CD+G record (R55): no effect, status OK (R71). -/
def execEmptyNotcdg53 (s : State) : Host.Outcome State Fault Refusal :=
  .next (s.emit .empty (applyEmpty s.display))

/-- Command field 54, not a CD+G record (R55): no effect, status OK (R71). -/
def execEmptyNotcdg54 (s : State) : Host.Outcome State Fault Refusal :=
  .next (s.emit .empty (applyEmpty s.display))

/-- Command field 55, not a CD+G record (R55): no effect, status OK (R71). -/
def execEmptyNotcdg55 (s : State) : Host.Outcome State Fault Refusal :=
  .next (s.emit .empty (applyEmpty s.display))

/-- Command field 56, not a CD+G record (R55): no effect, status OK (R71). -/
def execEmptyNotcdg56 (s : State) : Host.Outcome State Fault Refusal :=
  .next (s.emit .empty (applyEmpty s.display))

/-- Command field 57, not a CD+G record (R55): no effect, status OK (R71). -/
def execEmptyNotcdg57 (s : State) : Host.Outcome State Fault Refusal :=
  .next (s.emit .empty (applyEmpty s.display))

/-- Command field 58, not a CD+G record (R55): no effect, status OK (R71). -/
def execEmptyNotcdg58 (s : State) : Host.Outcome State Fault Refusal :=
  .next (s.emit .empty (applyEmpty s.display))

/-- Command field 59, not a CD+G record (R55): no effect, status OK (R71). -/
def execEmptyNotcdg59 (s : State) : Host.Outcome State Fault Refusal :=
  .next (s.emit .empty (applyEmpty s.display))

/-- Command field 60, not a CD+G record (R55): no effect, status OK (R71). -/
def execEmptyNotcdg60 (s : State) : Host.Outcome State Fault Refusal :=
  .next (s.emit .empty (applyEmpty s.display))

/-- Command field 61, not a CD+G record (R55): no effect, status OK (R71). -/
def execEmptyNotcdg61 (s : State) : Host.Outcome State Fault Refusal :=
  .next (s.emit .empty (applyEmpty s.display))

/-- Command field 62, not a CD+G record (R55): no effect, status OK (R71). -/
def execEmptyNotcdg62 (s : State) : Host.Outcome State Fault Refusal :=
  .next (s.emit .empty (applyEmpty s.display))

/-- Command field 63, not a CD+G record (R55): no effect, status OK (R71). -/
def execEmptyNotcdg63 (s : State) : Host.Outcome State Fault Refusal :=
  .next (s.emit .empty (applyEmpty s.display))

end Sys2Proof.Machine
end

