-- ==== Sys2Proof/Machine/LoadColors.lean ====
section
/-! DEFINITION. LoadColorsLow and LoadColorsHigh (spec/43_load_colors.md). -/

namespace Sys2Proof.Machine

/-- LoadColorsLow, apply: entries 0 to 7 become the eight colours, in order (R88). -/
def applyLoadColorsLow (entries : Vector Rgb 8) (d : Display) : Status × Display :=
  succeed { d with colorTable := d.colorTable.setLow entries }

/-- LoadColorsLow (R88). -/
def execLoadColorsLow (entries : Vector Rgb 8) (s : State) : Host.Outcome State Fault Refusal :=
  .next (s.emit (.loadColorsLow entries) (applyLoadColorsLow entries s.display))

/-- LoadColorsHigh, apply: entries 8 to 15 become the eight colours, in order (R89). -/
def applyLoadColorsHigh (entries : Vector Rgb 8) (d : Display) : Status × Display :=
  succeed { d with colorTable := d.colorTable.setHigh entries }

/-- LoadColorsHigh (R89). -/
def execLoadColorsHigh (entries : Vector Rgb 8) (s : State) : Host.Outcome State Fault Refusal :=
  .next (s.emit (.loadColorsHigh entries) (applyLoadColorsHigh entries s.display))

end Sys2Proof.Machine
end

