-- ==== Sys2Proof/Machine/Presets.lean ====
section
/-! DEFINITION. MemoryPreset and BorderPreset (spec/41_presets.md). -/

namespace Sys2Proof.Machine

/-- MemoryPreset, apply: every cell and `bg_color` become `color` (R74). -/
def applyMemoryPreset (color : ColorIndex) (d : Display) : Status × Display :=
  succeed { d with framebuffer := .fill color, bgColor := color }

/-- MemoryPreset (R74). -/
def execMemoryPreset (color : ColorIndex) (s : State) : Host.Outcome State Fault Refusal :=
  .next (s.emit (.memoryPreset color) (applyMemoryPreset color s.display))

/-- BorderPreset, apply: every border cell and `border_color` become `color` (R76). -/
def applyBorderPreset (color : ColorIndex) (d : Display) : Status × Display :=
  succeed { d with framebuffer := d.framebuffer.fillBorder color, borderColor := color }

/-- BorderPreset (R76). -/
def execBorderPreset (color : ColorIndex) (s : State) : Host.Outcome State Fault Refusal :=
  .next (s.emit (.borderPreset color) (applyBorderPreset color s.display))

end Sys2Proof.Machine
end

