-- ==== Sys2Proof/Machine/Operands.lean ====
section
/-! DEFINITION. Every operand form. All operands are immediate fields of the record (spec/10_state.md R10), cut out by
the decoder; what the renderer derives from them is here: the pixel select of a tile (spec/42_tile_block.md R80) and the
displacement of a scroll (spec/44_scroll.md R92). The block has no addressing modes beyond these (spec/20_memory.md
R30). -/

namespace Sys2Proof.Machine

/-- The selected colour of the pixel in in-tile row `i` and in-tile column `j`: bit 5 is the leftmost column (R80). -/
def sel (color0 color1 : ColorIndex) (bits : Vector (BitVec 6) 12) (i : Fin 12) (j : Fin 6) : ColorIndex :=
  if (bits[i]).getLsbD (5 - j.val) then color1 else color0

/-- The horizontal displacement `dx`: +6 for right, -6 for left, 0 for none and for the reserved code 3 (R92). -/
def scrollDx (hCmd : BitVec 2) : Int := if hCmd = 1 then 6 else if hCmd = 2 then -6 else 0

/-- The vertical displacement `dy`: +12 for down, -12 for up, 0 for none and for the reserved code 3 (R92; that down is
toward larger `y` is UNVERIFIED beyond the spec's decision D8, unsafe: assumption log 11). -/
def scrollDy (vCmd : BitVec 2) : Int := if vCmd = 1 then 12 else if vCmd = 2 then -12 else 0

end Sys2Proof.Machine
end

