-- ==== Sys2Proof/Machine/Scroll.lean ====
section
/-! DEFINITION. ScrollPreset and ScrollCopy (spec/44_scroll.md). The offsets `hOff` and `vOff` have no effect on the
Display State (R93); they leave the block at the decoder output only. That a scroll writes no
register is the frame rule R24 (UNVERIFIED beyond the spec's decision D15, unsafe: assumption log 13). -/

namespace Sys2Proof.Machine

/-- ScrollPreset, apply: move the whole picture and fill what it vacates with `color` (R94). -/
def applyScrollPreset (color : ColorIndex) (hCmd : BitVec 2) (_hOff : BitVec 3) (vCmd : BitVec 2) (_vOff : BitVec 4)
    (d : Display) : Status × Display :=
  succeed { d with framebuffer := d.framebuffer.shift (scrollDy vCmd) (scrollDx hCmd) color }

/-- ScrollPreset (R94). -/
def execScrollPreset (color : ColorIndex) (hCmd : BitVec 2) (hOff : BitVec 3) (vCmd : BitVec 2) (vOff : BitVec 4)
    (s : State) : Host.Outcome State Fault Refusal :=
  .next (s.emit (.scrollPreset color hCmd hOff vCmd vOff) (applyScrollPreset color hCmd hOff vCmd vOff s.display))

/-- ScrollCopy, apply: rotate the whole picture; `color` is not used (R95). -/
def applyScrollCopy (_color : ColorIndex) (hCmd : BitVec 2) (_hOff : BitVec 3) (vCmd : BitVec 2) (_vOff : BitVec 4)
    (d : Display) : Status × Display :=
  succeed { d with framebuffer := d.framebuffer.rotate (scrollDy vCmd) (scrollDx hCmd) }

/-- ScrollCopy (R95). -/
def execScrollCopy (color : ColorIndex) (hCmd : BitVec 2) (hOff : BitVec 3) (vCmd : BitVec 2) (vOff : BitVec 4)
    (s : State) : Host.Outcome State Fault Refusal :=
  .next (s.emit (.scrollCopy color hCmd hOff vCmd vOff) (applyScrollCopy color hCmd hOff vCmd vOff s.display))

end Sys2Proof.Machine
end

