-- ==== Sys2Proof/Machine/Flags.lean ====
section
/-! DEFINITION. Flag computations. The block has no flags or condition codes (spec/10_state.md R12), so no instruction
writes any. The one condition it computes is the bounds test behind a tile's status (spec/42_tile_block.md R79). -/

namespace Sys2Proof.Machine

/-- The tile bounds test, on exact natural numbers (R31, R79): true means `OutOfRange`. -/
def tileOutOfRange (row : BitVec 5) (column : BitVec 6) : Bool :=
  decide (row.toNat * 12 + 11 ≥ 216) || decide (column.toNat * 6 + 5 ≥ 300)

end Sys2Proof.Machine
end

