-- ==== Sys2Proof/Machine/TileBlock.lean ====
section
/-! DEFINITION. TileBlock and TileBlockXor, the only instructions that can raise an exception
(spec/42_tile_block.md). -/

namespace Sys2Proof.Machine

/-- What both tile instructions do: test the bounds before anything else (R79), then rewrite the tile's 72 cells. -/
def placeTile (row : BitVec 5) (column : BitVec 6) (new : Fin 12 → Fin 6 → ColorIndex → ColorIndex) (d : Display) :
    Status × Display :=
  if tileOutOfRange row column then raiseOutOfRange d
  else succeed { d with framebuffer := d.framebuffer.paintTile row.toNat column.toNat new }

/-- TileBlock, apply: the selected colour overwrites the cell (R81). -/
def applyTileBlock (color0 color1 : ColorIndex) (row : BitVec 5) (column : BitVec 6) (bits : Vector (BitVec 6) 12)
    (d : Display) : Status × Display :=
  placeTile row column (fun i j _ => sel color0 color1 bits i j) d

/-- TileBlock (R81). -/
def execTileBlock (color0 color1 : ColorIndex) (row : BitVec 5) (column : BitVec 6) (bits : Vector (BitVec 6) 12)
    (s : State) : Host.Outcome State Fault Refusal :=
  .next (s.emit (.tileBlock color0 color1 row column bits) (applyTileBlock color0 color1 row column bits s.display))

/-- TileBlockXor, apply: the selected colour is XORed into the cell (R82). -/
def applyTileBlockXor (color0 color1 : ColorIndex) (row : BitVec 5) (column : BitVec 6) (bits : Vector (BitVec 6) 12)
    (d : Display) : Status × Display :=
  placeTile row column (fun i j old => old ^^^ sel color0 color1 bits i j) d

/-- TileBlockXor (R82). -/
def execTileBlockXor (color0 color1 : ColorIndex) (row : BitVec 5) (column : BitVec 6) (bits : Vector (BitVec 6) 12)
    (s : State) : Host.Outcome State Fault Refusal :=
  .next (s.emit (.tileBlockXor color0 color1 row column bits)
    (applyTileBlockXor color0 color1 row column bits s.display))

end Sys2Proof.Machine
end

