-- ==== Sys2Proof/Machine/Dispatch.lean ====
section
/-! DEFINITION. exec: one arm per row of the opcode table (spec/40_decoder_common.md R70). -/

namespace Sys2Proof.Machine

def exec (i : Instr) (s : State) : Host.Outcome State Fault Refusal :=
  match i with
  | .memoryPreset color => Sys2Proof.Machine.execMemoryPreset color s
  | .borderPreset color => Sys2Proof.Machine.execBorderPreset color s
  | .tileBlock color0 color1 row column bits => Sys2Proof.Machine.execTileBlock color0 color1 row column bits s
  | .scrollPreset color hCmd hOff vCmd vOff => Sys2Proof.Machine.execScrollPreset color hCmd hOff vCmd vOff s
  | .scrollCopy color hCmd hOff vCmd vOff => Sys2Proof.Machine.execScrollCopy color hCmd hOff vCmd vOff s
  | .defineTransparent color => Sys2Proof.Machine.execDefineTransparent color s
  | .loadColorsLow entries => Sys2Proof.Machine.execLoadColorsLow entries s
  | .loadColorsHigh entries => Sys2Proof.Machine.execLoadColorsHigh entries s
  | .tileBlockXor color0 color1 row column bits => Sys2Proof.Machine.execTileBlockXor color0 color1 row column bits s
  | .emptyRepeat01 => Sys2Proof.Machine.execEmptyRepeat01 s
  | .emptyRepeat02 => Sys2Proof.Machine.execEmptyRepeat02 s
  | .emptyRepeat03 => Sys2Proof.Machine.execEmptyRepeat03 s
  | .emptyRepeat04 => Sys2Proof.Machine.execEmptyRepeat04 s
  | .emptyRepeat05 => Sys2Proof.Machine.execEmptyRepeat05 s
  | .emptyRepeat06 => Sys2Proof.Machine.execEmptyRepeat06 s
  | .emptyRepeat07 => Sys2Proof.Machine.execEmptyRepeat07 s
  | .emptyRepeat08 => Sys2Proof.Machine.execEmptyRepeat08 s
  | .emptyRepeat09 => Sys2Proof.Machine.execEmptyRepeat09 s
  | .emptyRepeat10 => Sys2Proof.Machine.execEmptyRepeat10 s
  | .emptyRepeat11 => Sys2Proof.Machine.execEmptyRepeat11 s
  | .emptyRepeat12 => Sys2Proof.Machine.execEmptyRepeat12 s
  | .emptyRepeat13 => Sys2Proof.Machine.execEmptyRepeat13 s
  | .emptyRepeat14 => Sys2Proof.Machine.execEmptyRepeat14 s
  | .emptyRepeat15 => Sys2Proof.Machine.execEmptyRepeat15 s
  | .emptyReserved00 => Sys2Proof.Machine.execEmptyReserved00 s
  | .emptyReserved03 => Sys2Proof.Machine.execEmptyReserved03 s
  | .emptyReserved04 => Sys2Proof.Machine.execEmptyReserved04 s
  | .emptyReserved05 => Sys2Proof.Machine.execEmptyReserved05 s
  | .emptyReserved07 => Sys2Proof.Machine.execEmptyReserved07 s
  | .emptyReserved08 => Sys2Proof.Machine.execEmptyReserved08 s
  | .emptyReserved09 => Sys2Proof.Machine.execEmptyReserved09 s
  | .emptyReserved10 => Sys2Proof.Machine.execEmptyReserved10 s
  | .emptyReserved11 => Sys2Proof.Machine.execEmptyReserved11 s
  | .emptyReserved12 => Sys2Proof.Machine.execEmptyReserved12 s
  | .emptyReserved13 => Sys2Proof.Machine.execEmptyReserved13 s
  | .emptyReserved14 => Sys2Proof.Machine.execEmptyReserved14 s
  | .emptyReserved15 => Sys2Proof.Machine.execEmptyReserved15 s
  | .emptyReserved16 => Sys2Proof.Machine.execEmptyReserved16 s
  | .emptyReserved17 => Sys2Proof.Machine.execEmptyReserved17 s
  | .emptyReserved18 => Sys2Proof.Machine.execEmptyReserved18 s
  | .emptyReserved19 => Sys2Proof.Machine.execEmptyReserved19 s
  | .emptyReserved21 => Sys2Proof.Machine.execEmptyReserved21 s
  | .emptyReserved22 => Sys2Proof.Machine.execEmptyReserved22 s
  | .emptyReserved23 => Sys2Proof.Machine.execEmptyReserved23 s
  | .emptyReserved25 => Sys2Proof.Machine.execEmptyReserved25 s
  | .emptyReserved26 => Sys2Proof.Machine.execEmptyReserved26 s
  | .emptyReserved27 => Sys2Proof.Machine.execEmptyReserved27 s
  | .emptyReserved29 => Sys2Proof.Machine.execEmptyReserved29 s
  | .emptyReserved32 => Sys2Proof.Machine.execEmptyReserved32 s
  | .emptyReserved33 => Sys2Proof.Machine.execEmptyReserved33 s
  | .emptyReserved34 => Sys2Proof.Machine.execEmptyReserved34 s
  | .emptyReserved35 => Sys2Proof.Machine.execEmptyReserved35 s
  | .emptyReserved36 => Sys2Proof.Machine.execEmptyReserved36 s
  | .emptyReserved37 => Sys2Proof.Machine.execEmptyReserved37 s
  | .emptyReserved39 => Sys2Proof.Machine.execEmptyReserved39 s
  | .emptyReserved40 => Sys2Proof.Machine.execEmptyReserved40 s
  | .emptyReserved41 => Sys2Proof.Machine.execEmptyReserved41 s
  | .emptyReserved42 => Sys2Proof.Machine.execEmptyReserved42 s
  | .emptyReserved43 => Sys2Proof.Machine.execEmptyReserved43 s
  | .emptyReserved44 => Sys2Proof.Machine.execEmptyReserved44 s
  | .emptyReserved45 => Sys2Proof.Machine.execEmptyReserved45 s
  | .emptyReserved46 => Sys2Proof.Machine.execEmptyReserved46 s
  | .emptyReserved47 => Sys2Proof.Machine.execEmptyReserved47 s
  | .emptyReserved48 => Sys2Proof.Machine.execEmptyReserved48 s
  | .emptyReserved49 => Sys2Proof.Machine.execEmptyReserved49 s
  | .emptyReserved50 => Sys2Proof.Machine.execEmptyReserved50 s
  | .emptyReserved51 => Sys2Proof.Machine.execEmptyReserved51 s
  | .emptyReserved52 => Sys2Proof.Machine.execEmptyReserved52 s
  | .emptyReserved53 => Sys2Proof.Machine.execEmptyReserved53 s
  | .emptyReserved54 => Sys2Proof.Machine.execEmptyReserved54 s
  | .emptyReserved55 => Sys2Proof.Machine.execEmptyReserved55 s
  | .emptyReserved56 => Sys2Proof.Machine.execEmptyReserved56 s
  | .emptyReserved57 => Sys2Proof.Machine.execEmptyReserved57 s
  | .emptyReserved58 => Sys2Proof.Machine.execEmptyReserved58 s
  | .emptyReserved59 => Sys2Proof.Machine.execEmptyReserved59 s
  | .emptyReserved60 => Sys2Proof.Machine.execEmptyReserved60 s
  | .emptyReserved61 => Sys2Proof.Machine.execEmptyReserved61 s
  | .emptyReserved62 => Sys2Proof.Machine.execEmptyReserved62 s
  | .emptyReserved63 => Sys2Proof.Machine.execEmptyReserved63 s
  | .emptyNotcdg00 => Sys2Proof.Machine.execEmptyNotcdg00 s
  | .emptyNotcdg01 => Sys2Proof.Machine.execEmptyNotcdg01 s
  | .emptyNotcdg02 => Sys2Proof.Machine.execEmptyNotcdg02 s
  | .emptyNotcdg03 => Sys2Proof.Machine.execEmptyNotcdg03 s
  | .emptyNotcdg04 => Sys2Proof.Machine.execEmptyNotcdg04 s
  | .emptyNotcdg05 => Sys2Proof.Machine.execEmptyNotcdg05 s
  | .emptyNotcdg06 => Sys2Proof.Machine.execEmptyNotcdg06 s
  | .emptyNotcdg07 => Sys2Proof.Machine.execEmptyNotcdg07 s
  | .emptyNotcdg08 => Sys2Proof.Machine.execEmptyNotcdg08 s
  | .emptyNotcdg10 => Sys2Proof.Machine.execEmptyNotcdg10 s
  | .emptyNotcdg11 => Sys2Proof.Machine.execEmptyNotcdg11 s
  | .emptyNotcdg12 => Sys2Proof.Machine.execEmptyNotcdg12 s
  | .emptyNotcdg13 => Sys2Proof.Machine.execEmptyNotcdg13 s
  | .emptyNotcdg14 => Sys2Proof.Machine.execEmptyNotcdg14 s
  | .emptyNotcdg15 => Sys2Proof.Machine.execEmptyNotcdg15 s
  | .emptyNotcdg16 => Sys2Proof.Machine.execEmptyNotcdg16 s
  | .emptyNotcdg17 => Sys2Proof.Machine.execEmptyNotcdg17 s
  | .emptyNotcdg18 => Sys2Proof.Machine.execEmptyNotcdg18 s
  | .emptyNotcdg19 => Sys2Proof.Machine.execEmptyNotcdg19 s
  | .emptyNotcdg20 => Sys2Proof.Machine.execEmptyNotcdg20 s
  | .emptyNotcdg21 => Sys2Proof.Machine.execEmptyNotcdg21 s
  | .emptyNotcdg22 => Sys2Proof.Machine.execEmptyNotcdg22 s
  | .emptyNotcdg23 => Sys2Proof.Machine.execEmptyNotcdg23 s
  | .emptyNotcdg24 => Sys2Proof.Machine.execEmptyNotcdg24 s
  | .emptyNotcdg25 => Sys2Proof.Machine.execEmptyNotcdg25 s
  | .emptyNotcdg26 => Sys2Proof.Machine.execEmptyNotcdg26 s
  | .emptyNotcdg27 => Sys2Proof.Machine.execEmptyNotcdg27 s
  | .emptyNotcdg28 => Sys2Proof.Machine.execEmptyNotcdg28 s
  | .emptyNotcdg29 => Sys2Proof.Machine.execEmptyNotcdg29 s
  | .emptyNotcdg30 => Sys2Proof.Machine.execEmptyNotcdg30 s
  | .emptyNotcdg31 => Sys2Proof.Machine.execEmptyNotcdg31 s
  | .emptyNotcdg32 => Sys2Proof.Machine.execEmptyNotcdg32 s
  | .emptyNotcdg33 => Sys2Proof.Machine.execEmptyNotcdg33 s
  | .emptyNotcdg34 => Sys2Proof.Machine.execEmptyNotcdg34 s
  | .emptyNotcdg35 => Sys2Proof.Machine.execEmptyNotcdg35 s
  | .emptyNotcdg36 => Sys2Proof.Machine.execEmptyNotcdg36 s
  | .emptyNotcdg37 => Sys2Proof.Machine.execEmptyNotcdg37 s
  | .emptyNotcdg38 => Sys2Proof.Machine.execEmptyNotcdg38 s
  | .emptyNotcdg39 => Sys2Proof.Machine.execEmptyNotcdg39 s
  | .emptyNotcdg40 => Sys2Proof.Machine.execEmptyNotcdg40 s
  | .emptyNotcdg41 => Sys2Proof.Machine.execEmptyNotcdg41 s
  | .emptyNotcdg42 => Sys2Proof.Machine.execEmptyNotcdg42 s
  | .emptyNotcdg43 => Sys2Proof.Machine.execEmptyNotcdg43 s
  | .emptyNotcdg44 => Sys2Proof.Machine.execEmptyNotcdg44 s
  | .emptyNotcdg45 => Sys2Proof.Machine.execEmptyNotcdg45 s
  | .emptyNotcdg46 => Sys2Proof.Machine.execEmptyNotcdg46 s
  | .emptyNotcdg47 => Sys2Proof.Machine.execEmptyNotcdg47 s
  | .emptyNotcdg48 => Sys2Proof.Machine.execEmptyNotcdg48 s
  | .emptyNotcdg49 => Sys2Proof.Machine.execEmptyNotcdg49 s
  | .emptyNotcdg50 => Sys2Proof.Machine.execEmptyNotcdg50 s
  | .emptyNotcdg51 => Sys2Proof.Machine.execEmptyNotcdg51 s
  | .emptyNotcdg52 => Sys2Proof.Machine.execEmptyNotcdg52 s
  | .emptyNotcdg53 => Sys2Proof.Machine.execEmptyNotcdg53 s
  | .emptyNotcdg54 => Sys2Proof.Machine.execEmptyNotcdg54 s
  | .emptyNotcdg55 => Sys2Proof.Machine.execEmptyNotcdg55 s
  | .emptyNotcdg56 => Sys2Proof.Machine.execEmptyNotcdg56 s
  | .emptyNotcdg57 => Sys2Proof.Machine.execEmptyNotcdg57 s
  | .emptyNotcdg58 => Sys2Proof.Machine.execEmptyNotcdg58 s
  | .emptyNotcdg59 => Sys2Proof.Machine.execEmptyNotcdg59 s
  | .emptyNotcdg60 => Sys2Proof.Machine.execEmptyNotcdg60 s
  | .emptyNotcdg61 => Sys2Proof.Machine.execEmptyNotcdg61 s
  | .emptyNotcdg62 => Sys2Proof.Machine.execEmptyNotcdg62 s
  | .emptyNotcdg63 => Sys2Proof.Machine.execEmptyNotcdg63 s

end Sys2Proof.Machine
end

