-- ==== Sys2Proof/Machine/Step.lean ====
section
/-! DEFINITION. One step (spec/00_scope.md R2, spec/40_decoder_common.md section 4): take what the environment hands
over next; a record is decoded and applied. -/

namespace Sys2Proof.Machine

/-- One step: the next record is decoded and executed (R2), the reset input resets the Display State (R116), and with
nothing handed over the block holds its state (R115). A step is atomic: nothing outside reads or writes in the middle
(DEDUCED, unsafe where a collaborator breaks its contract: assumption log 17). It has no duration (DESIGN CHOICE, safe:
assumption log 21). -/
def step (s : State) : Host.Outcome State Fault Refusal :=
  match s.input with
  | [] => .next s.hold
  | .record rec :: rest => exec (decode rec) (s.takeRecord rest)
  | .reset :: rest => .next (s.takeReset rest)

/-- The state in which the packet source hands over, as the very next record, the one whose first bits are the table
word `w` and whose other bits are zero; the state itself where `w` is no table word (assumption log 7). -/
def State.withFetchWord (s : State) (nbits w : Nat) : State :=
  match tableWordBytes nbits w with
  | some bytes => s.supply (tabulate fun k => bytes.getD k.val 0)
  | none => s

end Sys2Proof.Machine
end

