-- ==== Sys2Proof/Machine/Apply.lean ====
section
/-! DEFINITION. The two functions of the block on its own state alone, without the environment's fields: the Render
State Machine's dispatcher, the step on a record and the run (spec/40_decoder_common.md R70 and section 4,
spec/70_reset_and_hazards.md R129). Statements compare `exec`, `step` and the host's run with these. -/

namespace Sys2Proof.Machine

/-- `apply(t, S)`: the switch with ten arms, nine of which do something (R70). -/
def apply : TypedInstr → Display → Status × Display
  | .empty, d => applyEmpty d
  | .memoryPreset color, d => applyMemoryPreset color d
  | .borderPreset color, d => applyBorderPreset color d
  | .tileBlock color0 color1 row column bits, d => applyTileBlock color0 color1 row column bits d
  | .tileBlockXor color0 color1 row column bits, d => applyTileBlockXor color0 color1 row column bits d
  | .loadColorsLow entries, d => applyLoadColorsLow entries d
  | .loadColorsHigh entries, d => applyLoadColorsHigh entries d
  | .scrollPreset color hCmd hOff vCmd vOff, d => applyScrollPreset color hCmd hOff vCmd vOff d
  | .scrollCopy color hCmd hOff vCmd vOff, d => applyScrollCopy color hCmd hOff vCmd vOff d
  | .defineTransparent color, d => applyDefineTransparent color d

/-- `step(rec, S) = apply(decode(rec), S)`: the typed instruction, the status and the next Display State (R2). -/
def stepRecord (rec : Record) (d : Display) : StepResult × Display :=
  (⟨(decode rec).typed, (apply (decode rec).typed d).1⟩, (apply (decode rec).typed d).2)

/-- A run: the records applied in order, their results in order, and the final Display State. It does not stop at an
`OutOfRange` (R110, R129). -/
def runRecords : List Record → Display → List StepResult × Display
  | [], d => ([], d)
  | rec :: rest, d =>
    let first := stepRecord rec d
    let later := runRecords rest first.2
    (first.1 :: later.1, later.2)

end Sys2Proof.Machine
end

