-- ==== Sys2Proof/WellFormed.lean ====
section
/-! DEFINITION. Which instructions are well-formed. An instruction as a person writes it (spec/30_encoding.md R61:
variant name, then its fields as plain numbers) may hold numbers that are too large; it is well-formed when every field
has the width of R52 and every list its length. The fields of `Instr` have those widths by type, so a term of `Instr` is
always well-formed (R53): `Sys2Proof.Laws.FieldWidths` proves it constructor by constructor. -/

namespace Sys2Proof

/-- A typed instruction written in the notation of R61, its fields plain numbers. -/
inductive RawInstr where
  | empty
  | memoryPreset (color : Nat)
  | borderPreset (color : Nat)
  | tileBlock (color0 color1 row column : Nat) (bits : List Nat)
  | tileBlockXor (color0 color1 row column : Nat) (bits : List Nat)
  | loadColorsLow (entries : List (Nat × Nat × Nat))
  | loadColorsHigh (entries : List (Nat × Nat × Nat))
  | scrollPreset (color hCmd hOff vCmd vOff : Nat)
  | scrollCopy (color hCmd hOff vCmd vOff : Nat)
  | defineTransparent (color : Nat)
  deriving DecidableEq, Repr

/-- The number fits a field of that many bits. -/
def fits (width n : Nat) : Bool := decide (n < 2 ^ width)

/-- The fields of a tile instruction have the widths of R52 and the bitmap twelve values. -/
def tileFits (color0 color1 row column : Nat) (bits : List Nat) : Bool :=
  fits 4 color0 && fits 4 color1 && fits 5 row && fits 6 column && bits.length == 12 && bits.all (fits 6)

/-- There are eight colours and every channel is a 4-bit value (R52). -/
def entriesFit (entries : List (Nat × Nat × Nat)) : Bool :=
  entries.length == 8 && entries.all fun e => fits 4 e.1 && fits 4 e.2.1 && fits 4 e.2.2

/-- The fields of a scroll instruction have the widths of R52. -/
def scrollFits (color hCmd hOff vCmd vOff : Nat) : Bool :=
  fits 4 color && fits 2 hCmd && fits 3 hOff && fits 2 vCmd && fits 4 vOff

/-- Every field has the width of R52. Widths only: `row` and `column` may be too large for the grid (R53). -/
def RawInstr.wellFormed : RawInstr → Bool
  | .empty => true
  | .memoryPreset color => fits 4 color
  | .borderPreset color => fits 4 color
  | .tileBlock color0 color1 row column bits => tileFits color0 color1 row column bits
  | .tileBlockXor color0 color1 row column bits => tileFits color0 color1 row column bits
  | .loadColorsLow entries => entriesFit entries
  | .loadColorsHigh entries => entriesFit entries
  | .scrollPreset color hCmd hOff vCmd vOff => scrollFits color hCmd hOff vCmd vOff
  | .scrollCopy color hCmd hOff vCmd vOff => scrollFits color hCmd hOff vCmd vOff
  | .defineTransparent color => fits 4 color

/-- The three channels of a colour as numbers. -/
def Rgb.raw (c : Rgb) : Nat × Nat × Nat := (c.r.toNat, c.g.toNat, c.b.toNat)

/-- A typed instruction written out in the notation of R61. -/
def TypedInstr.raw : TypedInstr → RawInstr
  | .empty => .empty
  | .memoryPreset color => .memoryPreset color.toNat
  | .borderPreset color => .borderPreset color.toNat
  | .tileBlock color0 color1 row column bits =>
    .tileBlock color0.toNat color1.toNat row.toNat column.toNat (bits.toList.map BitVec.toNat)
  | .tileBlockXor color0 color1 row column bits =>
    .tileBlockXor color0.toNat color1.toNat row.toNat column.toNat (bits.toList.map BitVec.toNat)
  | .loadColorsLow entries => .loadColorsLow (entries.toList.map Rgb.raw)
  | .loadColorsHigh entries => .loadColorsHigh (entries.toList.map Rgb.raw)
  | .scrollPreset color hCmd hOff vCmd vOff =>
    .scrollPreset color.toNat hCmd.toNat hOff.toNat vCmd.toNat vOff.toNat
  | .scrollCopy color hCmd hOff vCmd vOff =>
    .scrollCopy color.toNat hCmd.toNat hOff.toNat vCmd.toNat vOff.toNat
  | .defineTransparent color => .defineTransparent color.toNat

/-- An instruction is well-formed when its fields, written out as numbers, have the widths of R52. -/
def Instr.wellFormed (i : Instr) : Bool := i.typed.raw.wellFormed

end Sys2Proof
end

