-- ==== Sys2Proof/Safety.lean ====
section
/-! DEFINITION. What counts as a safe run, and the vocabulary of the claims: which tile placements lie in the grid,
several instructions in a row, the Empty rows of the opcode table, and the source's decoding algorithm written on plain
numbers. -/

namespace Sys2Proof

/-- A tile instruction's placement lies in the grid (R19); any other instruction has none. -/
def TypedInstr.InGrid : TypedInstr → Prop
  | .tileBlock _ _ row column _ => row.toNat ≤ 17 ∧ column.toNat ≤ 49
  | .tileBlockXor _ _ row column _ => row.toNat ≤ 17 ∧ column.toNat ≤ 49
  | .empty => True
  | .memoryPreset _ => True
  | .borderPreset _ => True
  | .loadColorsLow _ => True
  | .loadColorsHigh _ => True
  | .scrollPreset _ _ _ _ _ => True
  | .scrollCopy _ _ _ _ _ => True
  | .defineTransparent _ => True

/-- The instructions that R37 calls idempotent: a second application changes nothing more. -/
def TypedInstr.Idempotent : TypedInstr → Prop
  | .empty => True
  | .memoryPreset _ => True
  | .borderPreset _ => True
  | .tileBlock _ _ _ _ _ => True
  | .tileBlockXor _ _ row column _ => 18 ≤ row.toNat ∨ 50 ≤ column.toNat
  | .loadColorsLow _ => True
  | .loadColorsHigh _ => True
  | .scrollPreset _ hCmd _ vCmd _ => (hCmd = 0 ∨ hCmd = 3) ∧ (vCmd = 0 ∨ vCmd = 3)
  | .scrollCopy _ hCmd _ vCmd _ => (hCmd = 0 ∨ hCmd = 3) ∧ (vCmd = 0 ∨ vCmd = 3)
  | .defineTransparent _ => True

/-- The instruction loads a bank of the colour table. -/
def TypedInstr.LoadsColors : TypedInstr → Prop
  | .loadColorsLow _ => True
  | .loadColorsHigh _ => True
  | .empty => False
  | .memoryPreset _ => False
  | .borderPreset _ => False
  | .tileBlock _ _ _ _ _ => False
  | .tileBlockXor _ _ _ _ _ => False
  | .scrollPreset _ _ _ _ _ => False
  | .scrollCopy _ _ _ _ _ => False
  | .defineTransparent _ => False

/-- The cells an instruction may write (the footprint table, R37). -/
def TypedInstr.WritesCell (t : TypedInstr) (y : Fin 216) (x : Fin 300) : Prop :=
  match t with
  | .memoryPreset _ => True
  | .borderPreset _ => x.val < 3 ∨ 297 ≤ x.val ∨ y.val < 6 ∨ 210 ≤ y.val
  | .tileBlock _ _ row column _ =>
    row.toNat ≤ 17 ∧ column.toNat ≤ 49 ∧ y.val / 12 = row.toNat ∧ x.val / 6 = column.toNat
  | .tileBlockXor _ _ row column _ =>
    row.toNat ≤ 17 ∧ column.toNat ≤ 49 ∧ y.val / 12 = row.toNat ∧ x.val / 6 = column.toNat
  | .scrollPreset _ hCmd _ vCmd _ => hCmd = 1 ∨ hCmd = 2 ∨ vCmd = 1 ∨ vCmd = 2
  | .scrollCopy _ hCmd _ vCmd _ => hCmd = 1 ∨ hCmd = 2 ∨ vCmd = 1 ∨ vCmd = 2
  | .empty => False
  | .loadColorsLow _ => False
  | .loadColorsHigh _ => False
  | .defineTransparent _ => False

end Sys2Proof

namespace Sys2Proof.Machine

/-- A run is safe while every status is `OK` (spec/92_eei_decisions.md D11: a claim that wants it takes it as a
premise). -/
def State.AllOk (s : State) : Prop := ∀ r ∈ s.results, r.status = .ok

/-- The invariant of the results: a step's status is `OutOfRange` exactly when its instruction is a tile placed outside
the grid (R19, R102, R103). -/
def State.StatusesTell (s : State) : Prop := ∀ r ∈ s.results, r.status = .outOfRange ↔ ¬r.instr.InGrid

/-- Instructions executed one after another, stopping at the first that gives no next state. -/
def execAll : List Instr → State → Host.Outcome State Fault Refusal
  | [], s => .next s
  | i :: rest, s =>
    match exec i s with
    | .next t => execAll rest t
    | .fault r => .fault r
    | .refused r => .refused r

/-- The number of records among the events that wait. -/
def pendingRecords : List Event → Nat
  | [] => 0
  | .record _ :: rest => pendingRecords rest + 1
  | .reset :: rest => pendingRecords rest

/-- The opcode table's rows `EMPTY.REPEAT.<n>` (R56). -/
def emptyRepeatRows : List Instr :=
  [.emptyRepeat01, .emptyRepeat02, .emptyRepeat03, .emptyRepeat04, .emptyRepeat05, .emptyRepeat06,
   .emptyRepeat07, .emptyRepeat08, .emptyRepeat09, .emptyRepeat10, .emptyRepeat11, .emptyRepeat12,
   .emptyRepeat13, .emptyRepeat14, .emptyRepeat15]

/-- The opcode table's rows `EMPTY.RESERVED.<code>` (R54). -/
def emptyReservedRows : List Instr :=
  [.emptyReserved00, .emptyReserved03, .emptyReserved04, .emptyReserved05, .emptyReserved07,
   .emptyReserved08, .emptyReserved09, .emptyReserved10, .emptyReserved11, .emptyReserved12,
   .emptyReserved13, .emptyReserved14, .emptyReserved15, .emptyReserved16, .emptyReserved17,
   .emptyReserved18, .emptyReserved19, .emptyReserved21, .emptyReserved22, .emptyReserved23,
   .emptyReserved25, .emptyReserved26, .emptyReserved27, .emptyReserved29, .emptyReserved32,
   .emptyReserved33, .emptyReserved34, .emptyReserved35, .emptyReserved36, .emptyReserved37,
   .emptyReserved39, .emptyReserved40, .emptyReserved41, .emptyReserved42, .emptyReserved43,
   .emptyReserved44, .emptyReserved45, .emptyReserved46, .emptyReserved47, .emptyReserved48,
   .emptyReserved49, .emptyReserved50, .emptyReserved51, .emptyReserved52, .emptyReserved53,
   .emptyReserved54, .emptyReserved55, .emptyReserved56, .emptyReserved57, .emptyReserved58,
   .emptyReserved59, .emptyReserved60, .emptyReserved61, .emptyReserved62, .emptyReserved63]

/-- The opcode table's rows `EMPTY.NOTCDG.<command>` (R55). -/
def emptyNotcdgRows : List Instr :=
  [.emptyNotcdg00, .emptyNotcdg01, .emptyNotcdg02, .emptyNotcdg03, .emptyNotcdg04, .emptyNotcdg05,
   .emptyNotcdg06, .emptyNotcdg07, .emptyNotcdg08, .emptyNotcdg10, .emptyNotcdg11, .emptyNotcdg12,
   .emptyNotcdg13, .emptyNotcdg14, .emptyNotcdg15, .emptyNotcdg16, .emptyNotcdg17, .emptyNotcdg18,
   .emptyNotcdg19, .emptyNotcdg20, .emptyNotcdg21, .emptyNotcdg22, .emptyNotcdg23, .emptyNotcdg24,
   .emptyNotcdg25, .emptyNotcdg26, .emptyNotcdg27, .emptyNotcdg28, .emptyNotcdg29, .emptyNotcdg30,
   .emptyNotcdg31, .emptyNotcdg32, .emptyNotcdg33, .emptyNotcdg34, .emptyNotcdg35, .emptyNotcdg36,
   .emptyNotcdg37, .emptyNotcdg38, .emptyNotcdg39, .emptyNotcdg40, .emptyNotcdg41, .emptyNotcdg42,
   .emptyNotcdg43, .emptyNotcdg44, .emptyNotcdg45, .emptyNotcdg46, .emptyNotcdg47, .emptyNotcdg48,
   .emptyNotcdg49, .emptyNotcdg50, .emptyNotcdg51, .emptyNotcdg52, .emptyNotcdg53, .emptyNotcdg54,
   .emptyNotcdg55, .emptyNotcdg56, .emptyNotcdg57, .emptyNotcdg58, .emptyNotcdg59, .emptyNotcdg60,
   .emptyNotcdg61, .emptyNotcdg62, .emptyNotcdg63]

/-- The number of cells that hold a value. -/
def Framebuffer.count (fb : Framebuffer) (v : ColorIndex) : Nat :=
  (Finset.univ.filter fun p : Fin 216 × Fin 300 => fb.get p.1 p.2 = v).card

/-- The bits of payload byte `k` that a record with this instruction code depends on (the table of R58). -/
def relevantBits (code : BitVec 6) (k : Fin 16) : Byte :=
  match code.toNat with
  | 1 => if k.val ≤ 1 then 0x0F else 0
  | 2 => if k.val = 0 then 0x0F else 0
  | 28 => if k.val = 0 then 0x0F else 0
  | 6 => if k.val ≤ 1 then 0x0F else if k.val = 2 then 0x1F else 0x3F
  | 38 => if k.val ≤ 1 then 0x0F else if k.val = 2 then 0x1F else 0x3F
  | 30 => 0x3F
  | 31 => 0x3F
  | 20 => if k.val = 0 then 0x0F else if k.val = 1 then 0x37 else if k.val = 2 then 0x3F else 0
  | 24 => if k.val = 0 then 0x0F else if k.val = 1 then 0x37 else if k.val = 2 then 0x3F else 0
  | _ => 0

/-- `rgb(w)` on plain numbers (R84). -/
def sourceRgb (w : Nat) : Rgb where
  r := BitVec.ofNat 4 ((w >>> 10) &&& 0xF)
  g := BitVec.ofNat 4 (((w >>> 6) &&& 0xC) ||| ((w >>> 4) &&& 0xF))
  b := BitVec.ofNat 4 (w &&& 0xF)

/-- `tilefields(pay)` on plain numbers, the payload given as a function of the offset (R63). -/
def sourceTileFields {α : Type} (p : Nat → Nat)
    (make : ColorIndex → ColorIndex → BitVec 5 → BitVec 6 → Vector (BitVec 6) 12 → α) : α :=
  make (BitVec.ofNat 4 (p 0 &&& 0x0F)) (BitVec.ofNat 4 (p 1 &&& 0x0F)) (BitVec.ofNat 5 (p 2 &&& 0x1F))
    (BitVec.ofNat 6 (p 3 &&& 0x3F)) (Vector.ofFn fun i => BitVec.ofNat 6 (p (4 + i.val) &&& 0x3F))

/-- `scrollfields(pay)` on plain numbers (R63). -/
def sourceScrollFields {α : Type} (p : Nat → Nat)
    (make : ColorIndex → BitVec 2 → BitVec 3 → BitVec 2 → BitVec 4 → α) : α :=
  make (BitVec.ofNat 4 (p 0 &&& 0x0F))
    (BitVec.ofNat 2 (((p 1 &&& 0x3F) >>> 4) &&& 0x3)) (BitVec.ofNat 3 ((p 1 &&& 0x3F) &&& 0x07))
    (BitVec.ofNat 2 (((p 2 &&& 0x3F) >>> 4) &&& 0x3)) (BitVec.ofNat 4 ((p 2 &&& 0x3F) &&& 0x0F))

/-- `entries(pay)` on plain numbers (R63). -/
def sourceEntries (p : Nat → Nat) : Vector Rgb 8 :=
  Vector.ofFn fun k => sourceRgb (((p (2 * k.val) <<< 8) ||| p (2 * k.val + 1)) &&& 0x3F3F)

/-- The source's decoding algorithm, step for step, on plain numbers (R63). `b k` is record byte `k`. -/
def sourceDecode (b : Nat → Nat) : TypedInstr :=
  let p := fun k => b (4 + k)
  if b 0 &&& 0x3F ≠ 0x09 then .empty
  else if b 1 &&& 0x3F = 1 then
    if p 1 &&& 0x0F ≠ 0 then .empty else .memoryPreset (BitVec.ofNat 4 (p 0 &&& 0x0F))
  else if b 1 &&& 0x3F = 2 then .borderPreset (BitVec.ofNat 4 (p 0 &&& 0x0F))
  else if b 1 &&& 0x3F = 6 then sourceTileFields p .tileBlock
  else if b 1 &&& 0x3F = 38 then sourceTileFields p .tileBlockXor
  else if b 1 &&& 0x3F = 30 then .loadColorsLow (sourceEntries p)
  else if b 1 &&& 0x3F = 31 then .loadColorsHigh (sourceEntries p)
  else if b 1 &&& 0x3F = 20 then sourceScrollFields p .scrollPreset
  else if b 1 &&& 0x3F = 24 then sourceScrollFields p .scrollCopy
  else if b 1 &&& 0x3F = 28 then .defineTransparent (BitVec.ofNat 4 (p 0 &&& 0x0F))
  else .empty

/-- The bytes of a record as numbers. -/
def recordNumbers (rec : Record) (k : Nat) : Nat := ((rec.toList)[k]?.getD 0).toNat

end Sys2Proof.Machine
end

