-- ==== Sys2Proof/Certificates/Slice0/Obligations.lean ====
section
/-! DEFINITION. The statements for the provers. Each docstring names the rule of spec/ it formalises, or, where it rests
on an inference or a decision that the spec marks as its own or on a choice of the model, says so. In a statement about
an instruction the equation `exec i s = .next …` is its completion and its frame at once: every field that the equation
does not name, the input and the earlier results among them, is as in `s`. The list `results` is how the model shows the
decoder output and the status output of R2 and R121 (assumption log 2). -/

open Sys2Proof Sys2Proof.Machine

/-! ### The decoder -/

/-- R63: the decoder computes the source's algorithm, here written on plain numbers with the source's own masks and
shifts. -/
def Obligations.DecodeFollowsTheSourceAlgorithm : Prop :=
  ∀ rec : Record, (decode rec).typed = sourceDecode (recordNumbers rec)

/-- R44 and R45: bits 7 and 6 of the command, instruction and payload bytes, and the six parity bytes, never matter. -/
def Obligations.NoiseBitsAndParityNeverMatter : Prop :=
  ∀ a b : Record, (∀ k : Fin 24, k.val = 0 ∨ k.val = 1 ∨ (4 ≤ k.val ∧ k.val ≤ 19) → a[k] &&& 0x3F = b[k] &&& 0x3F) →
    decode a = decode b

/-- R55 and R65: a record whose masked command byte is not 9 is Empty, whatever else it holds. -/
def Obligations.CommandGateComesFirst : Prop :=
  ∀ rec : Record, rec[0] &&& 0x3F ≠ 0x09 → (decode rec).typed = .empty

/-- R54: every instruction code but the nine defined ones is Empty. -/
def Obligations.ReservedCodesAreEmpty : Prop :=
  ∀ rec : Record, rec[0] &&& 0x3F = 0x09 →
    (rec[1] &&& 0x3F).toNat ∉ [1, 2, 6, 20, 24, 28, 30, 31, 38] → (decode rec).typed = .empty

/-- R73: a memory preset with repeat 0 decodes to its colour, and one with any other repeat count to Empty. -/
def Obligations.MemoryPresetDecodesByItsRepeat : Prop :=
  ∀ rec : Record, rec[0] &&& 0x3F = 0x09 → rec[1] &&& 0x3F = 1 →
    (rec[5] &&& 0x0F = 0 → (decode rec).typed = .memoryPreset ((rec[4] &&& 0x0F).setWidth 4)) ∧
    (rec[5] &&& 0x0F ≠ 0 → (decode rec).typed = .empty)

/-- R67: Empty comes out in exactly the three cases. -/
def Obligations.EmptyInExactlyThreeCases : Prop :=
  ∀ rec : Record, (decode rec).typed = .empty ↔
    rec[0] &&& 0x3F ≠ 0x09 ∨
    (rec[0] &&& 0x3F = 0x09 ∧ (rec[1] &&& 0x3F).toNat ∉ [1, 2, 6, 20, 24, 28, 30, 31, 38]) ∨
    (rec[0] &&& 0x3F = 0x09 ∧ rec[1] &&& 0x3F = 1 ∧ rec[5] &&& 0x0F ≠ 0)

/-- Decoding the canonical record of any instruction gives the instruction back, with every operand at every value. The
property stands in R62, which the spec marks as its own decision and inference (D16); the records of the Empty rows
other than command 0 are the model's choice (assumption log 15). -/
def Obligations.DecodeInvertsEncode : Prop :=
  ∀ i : Instr, decode (encode i) = i

/-- The opcode table (spec/30_encoding.md section 8): a record's key matches exactly the row it decodes to. -/
def Obligations.RecordMatchesExactlyItsTableRow : Prop :=
  ∀ (rec : Record) (i : Instr), i.row.accepts (tableKey rec) = true ↔ (decode rec).row = i.row

/-- The opcode table (spec/30_encoding.md section 8): the match of every row, read as a record with zeros after it,
decodes to that row. That byte 0 is the word's most significant byte is the model's reading (assumption log 5). -/
def Obligations.EveryTableRowIsDecoded : Prop :=
  ∀ i : Instr, ∃ j, decodeTableWord 48 i.row.pattern.toNat = some j ∧ j.row = i.row

/-- The table of R58, which the spec marks as derived: within a defined code, the listed payload bits decide the
instruction, and, unless the record is Empty, each of them is in it. -/
def Obligations.ExactlyTheListedBitsMatter : Prop :=
  ∀ a b : Record, commandField a = 9 → commandField b = 9 → codeField a = codeField b →
    ((∀ k : Fin 16, pay a k &&& relevantBits (codeField a) k = pay b k &&& relevantBits (codeField a) k) →
      decode a = decode b) ∧
    ((decode a).typed ≠ .empty → decode a = decode b →
      ∀ k : Fin 16, pay a k &&& relevantBits (codeField a) k = pay b k &&& relevantBits (codeField a) k)

/-- What comes out of the decoder, written out as plain numbers, is exactly what is well-formed: no field is ever wider than
its documented width, and every value of every field at its width does come out of some record, a row and a column outside
the grid among them (derived from R48 to R50, R52 and R53; that a scroll command 3 and such a row and column come out is
the spec's decisions D5 and D10, assumption log 20). -/
def Obligations.DecodedFieldsHaveExactlyTheirWidths : Prop :=
  ∀ r : RawInstr, (∃ rec : Record, (decode rec).typed.raw = r) ↔ r.wellFormed = true

/-- A list of bytes that is not 24 long is rejected by name, one that is 24 long decodes as the record it is. Derived
from R43 and R60; the rejection is the model's (assumption log 16). -/
def Obligations.OnlyTwentyFourBytesAreARecord : Prop :=
  ∀ bytes : List Byte,
    (bytes.length ≠ 24 → decodeBytes bytes = .error (.notARecord bytes.length)) ∧
    (∀ h : bytes.length = 24, decodeBytes bytes = .ok (decode ⟨⟨bytes⟩, by simpa using h⟩))

/-- The channels of a colour word in terms of its two bytes, an inference that R84 marks as derived. -/
def Obligations.ChannelsFromTheTwoBytes : Prop :=
  ∀ hi lo : Byte,
    (rgb (colorWord hi lo)).r.toNat = (hi.toNat % 64) / 4 ∧
    (rgb (colorWord hi lo)).g.toNat = (hi.toNat % 4) * 4 + (lo.toNat % 64) / 16 ∧
    (rgb (colorWord hi lo)).b.toNat = lo.toNat % 16

/-- A few words of spec/95_test_vectors.md section 2.1, one for each family: V5, V9, V11, V14, V15, V16, V19, V7. -/
def Obligations.VectorWordsDecode : Prop :=
  decodeTableWord 48 0x490100003510 = some (.memoryPreset 5) ∧
  decodeTableWord 48 0x898200003C00 = some (.borderPreset 12) ∧
  decodeTableWord 192 0x0906000001021131_3F002112FF8040C12A15012000000000 =
    some (.tileBlock 1 2 17 49 #v[63, 0, 33, 18, 63, 0, 0, 1, 42, 21, 1, 32]) ∧
  decodeTableWord 160 0x0966000001020000202020202020202020202020 =
    some (.tileBlockXor 1 2 0 0 #v[32, 32, 32, 32, 32, 32, 32, 32, 32, 32, 32, 32]) ∧
  decodeTableWord 56 0x0914000003152B = some (.scrollPreset 3 1 5 2 11) ∧
  decodeTableWord 56 0x09180000133F3F = some (.scrollCopy 3 3 7 3 15) ∧
  decodeTableWord 40 0x091C00003A = some (.defineTransparent 10) ∧
  decodeTableWord 48 0x095E00003C00 =
    some (.loadColorsLow #v[⟨15, 0, 0⟩, ⟨0, 0, 0⟩, ⟨0, 0, 0⟩, ⟨0, 0, 0⟩, ⟨0, 0, 0⟩, ⟨0, 0, 0⟩, ⟨0, 0, 0⟩, ⟨0, 0, 0⟩]) ∧
  decodeTableWord 48 0x190100000500 = some .emptyNotcdg25

/-! ### Reset, the step and the run -/

/-- R22: the three index registers are 0 after reset. -/
def Obligations.IndexRegistersAreZeroAfterReset : Prop :=
  State.reset.display.bgColor = 0 ∧ State.reset.display.borderColor = 0 ∧ State.reset.display.transparentColor = 0

/-- The reset contents are the two open parameters, of which nothing can be proved. R23 marks this as the spec's decision
(D3, D4); the bodiless constants are assumption log 3 and 4. -/
def Obligations.ResetContentsAreTheOpenParameters : Prop :=
  (∀ y x, State.reset.display.framebuffer.get y x = Config.fbReset y x) ∧
  (∀ i : Fin 16, State.reset.display.colorTable[i] = Config.ctReset i)

/-- The reset input at a step boundary puts the Display State into its reset value and does nothing else. R116 marks this
as the spec's decision (D19); that the results stay is the model's choice (assumption log 14). -/
def Obligations.ResetInputRestoresTheDisplay : Prop :=
  ∀ (s : State) (rest : List Event), s.input = .reset :: rest →
    step s = .next { display := State.reset.display, input := rest, results := s.results }

/-- With no record handed over the block holds its state: read from the last sentence of R115 (assumption log 6). -/
def Obligations.BlockHoldsItsStateBetweenRecords : Prop :=
  ∀ s : State, s.input = [] → step s = .next s

/-- R2: a step runs the decoded instruction. The record at the head of the input is taken, its decoding is well-formed,
the step is `exec` of it, and that is the composition of `apply` and `decode`, with the typed instruction and the status
put out. -/
def Obligations.StepRunsTheDecodedInstruction : Prop :=
  ∀ (s : State) (rec : Record) (rest : List Event), s.input = .record rec :: rest →
    (decode rec).wellFormed = true ∧
    step s = exec (decode rec) { s with input := rest } ∧
    step s = .next {
      display := (apply (decode rec).typed s.display).2
      input := rest
      results := s.results ++ [⟨(decode rec).typed, (apply (decode rec).typed s.display).1⟩] }

/-- A word placed where the next instruction is taken from is what the next step runs (the model's ports: assumption log
5 and 7). -/
def Obligations.SuppliedWordIsExecutedNext : Prop :=
  ∀ (s : State) (nbits w : Nat) (i : Instr), decodeTableWord nbits w = some i →
    step (s.withFetchWord nbits w) = exec i s

/-- Every step returns, and none ends in a fault or a refusal. This is R8's conclusion ("`step` returns"); that rule's bound
on the cost of a step is not stated here. -/
def Obligations.EveryStepReturns : Prop :=
  ∀ s : State, ∃ t, step s = .next t

/-- `exec` is the dispatcher `apply` on the Display State, and besides it only puts out the typed instruction and the
status (spec/40_decoder_common.md section 2; the results list is the model's, assumption log 2). -/
def Obligations.ExecIsApplyOnTheDisplay : Prop :=
  ∀ (i : Instr) (s : State), exec i s = .next { s with
    display := (apply i.typed s.display).2
    results := s.results ++ [⟨i.typed, (apply i.typed s.display).1⟩] }

/-- R39: the final state of a program is the left-to-right fold of the step over its records; the results come in the
records' order. The host's run of as many steps as there are records gives just that. -/
def Obligations.RunIsTheFoldOverTheRecords : Prop :=
  ∀ (recs : List Record) (rest : List Event) (s : State), s.input = recs.map Event.record ++ rest →
    Sys2Proof.core.run recs.length s = .next {
      display := (runRecords recs s.display).2
      input := rest
      results := s.results ++ (runRecords recs s.display).1 }

/-- Exactly one typed instruction for each record, in order, an Empty one too; the number of typed instructions grows by
the number of records consumed. The clause on a record is R69. That the reset step keeps the results is the model's choice
(assumption log 14), and the idle step its reading of R115 (assumption log 6); the first and the third clause speak of
these two steps as well. -/
def Obligations.OneTypedInstructionPerRecord : Prop :=
  ∀ s t : State, step s = .next t →
    t.results.length + pendingRecords t.input = s.results.length + pendingRecords s.input ∧
    (∀ rec rest, s.input = .record rec :: rest →
      ∃ status, t.results = s.results ++ [⟨(decode rec).typed, status⟩]) ∧
    ((∀ rec rest, s.input ≠ .record rec :: rest) → t.results = s.results)

/-! ### Empty -/

/-- R71 for the rows of suppressed memory presets: nothing changes, status OK. -/
def Obligations.EmptyRepeatRowsDoNothing : Prop :=
  ∀ i ∈ emptyRepeatRows, ∀ s : State, exec i s = .next { s with results := s.results ++ [⟨.empty, .ok⟩] }

/-- R71 for the rows of reserved codes: nothing changes, status OK. -/
def Obligations.EmptyReservedRowsDoNothing : Prop :=
  ∀ i ∈ emptyReservedRows, ∀ s : State, exec i s = .next { s with results := s.results ++ [⟨.empty, .ok⟩] }

/-- R71 for the rows of records that are not CD+G: nothing changes, status OK. -/
def Obligations.EmptyNotcdgRowsDoNothing : Prop :=
  ∀ i ∈ emptyNotcdgRows, ∀ s : State, exec i s = .next { s with results := s.results ++ [⟨.empty, .ok⟩] }

/-! ### The instructions with an effect: completion, result and frame -/

/-- R74: every cell and `bg_color` become the colour; nothing else changes; status OK. -/
def Obligations.MemoryPresetFillsTheScreen : Prop :=
  ∀ (c : ColorIndex) (s : State), ∃ fb : Framebuffer,
    exec (.memoryPreset c) s = .next { s with
      display := { s.display with framebuffer := fb, bgColor := c }
      results := s.results ++ [⟨.memoryPreset c, .ok⟩] } ∧
    ∀ y x, fb.get y x = c

/-- R76: exactly the border cells and `border_color` become the colour; the interior and everything else is unchanged;
status OK. -/
def Obligations.BorderPresetFillsTheBorder : Prop :=
  ∀ (c : ColorIndex) (s : State), ∃ fb : Framebuffer,
    exec (.borderPreset c) s = .next { s with
      display := { s.display with framebuffer := fb, borderColor := c }
      results := s.results ++ [⟨.borderPreset c, .ok⟩] } ∧
    ∀ (y : Fin 216) (x : Fin 300), fb.get y x =
      if x.val < 3 ∨ x.val ≥ 297 ∨ y.val < 6 ∨ y.val ≥ 210 then c else s.display.framebuffer.get y x

/-- R80 and R81: outside the grid a tile ends with `OutOfRange` and changes nothing; an accepted tile writes the selected
colour to each of its 72 cells and changes nothing else. -/
def Obligations.TileBlockOverwritesItsTile : Prop :=
  ∀ (c0 c1 : ColorIndex) (row : BitVec 5) (col : BitVec 6) (bits : Vector (BitVec 6) 12) (s : State),
    (row.toNat * 12 + 11 ≥ 216 ∨ col.toNat * 6 + 5 ≥ 300 →
      exec (.tileBlock c0 c1 row col bits) s =
        .next { s with results := s.results ++ [⟨.tileBlock c0 c1 row col bits, .outOfRange⟩] }) ∧
    (row.toNat * 12 + 11 < 216 → col.toNat * 6 + 5 < 300 → ∃ fb : Framebuffer,
      exec (.tileBlock c0 c1 row col bits) s = .next { s with
        display := { s.display with framebuffer := fb }
        results := s.results ++ [⟨.tileBlock c0 c1 row col bits, .ok⟩] } ∧
      (∀ (i : Fin 12) (j : Fin 6) (y : Fin 216) (x : Fin 300),
        y.val = row.toNat * 12 + i.val → x.val = col.toNat * 6 + j.val →
        fb.get y x = if ((bits[i]).toNat >>> (5 - j.val)) &&& 1 = 1 then c1 else c0) ∧
      (∀ (y : Fin 216) (x : Fin 300),
        (∀ (i : Fin 12) (j : Fin 6), ¬(y.val = row.toNat * 12 + i.val ∧ x.val = col.toNat * 6 + j.val)) →
        fb.get y x = s.display.framebuffer.get y x))

/-- R80 and R82: outside the grid an XOR tile ends with `OutOfRange` and changes nothing; an accepted one XORs the selected
colour into each of its 72 cells and changes nothing else. -/
def Obligations.TileBlockXorXorsItsTile : Prop :=
  ∀ (c0 c1 : ColorIndex) (row : BitVec 5) (col : BitVec 6) (bits : Vector (BitVec 6) 12) (s : State),
    (row.toNat * 12 + 11 ≥ 216 ∨ col.toNat * 6 + 5 ≥ 300 →
      exec (.tileBlockXor c0 c1 row col bits) s =
        .next { s with results := s.results ++ [⟨.tileBlockXor c0 c1 row col bits, .outOfRange⟩] }) ∧
    (row.toNat * 12 + 11 < 216 → col.toNat * 6 + 5 < 300 → ∃ fb : Framebuffer,
      exec (.tileBlockXor c0 c1 row col bits) s = .next { s with
        display := { s.display with framebuffer := fb }
        results := s.results ++ [⟨.tileBlockXor c0 c1 row col bits, .ok⟩] } ∧
      (∀ (i : Fin 12) (j : Fin 6) (y : Fin 216) (x : Fin 300),
        y.val = row.toNat * 12 + i.val → x.val = col.toNat * 6 + j.val →
        fb.get y x = s.display.framebuffer.get y x ^^^
          (if ((bits[i]).toNat >>> (5 - j.val)) &&& 1 = 1 then c1 else c0)) ∧
      (∀ (y : Fin 216) (x : Fin 300),
        (∀ (i : Fin 12) (j : Fin 6), ¬(y.val = row.toNat * 12 + i.val ∧ x.val = col.toNat * 6 + j.val)) →
        fb.get y x = s.display.framebuffer.get y x))

/-- R79: the bounds test of both tile instructions. True, the step ends with `OutOfRange` and the state unchanged; false,
with OK; and the test is `row >= 18 or column >= 50`. -/
def Obligations.TileBoundsTestDecidesTheStatus : Prop :=
  ∀ (c0 c1 : ColorIndex) (row : BitVec 5) (col : BitVec 6) (bits : Vector (BitVec 6) 12) (s : State),
    (row.toNat * 12 + 11 ≥ 216 ∨ col.toNat * 6 + 5 ≥ 300 ↔ row.toNat ≥ 18 ∨ col.toNat ≥ 50) ∧
    (row.toNat * 12 + 11 ≥ 216 ∨ col.toNat * 6 + 5 ≥ 300 →
      exec (.tileBlock c0 c1 row col bits) s =
        .next { s with results := s.results ++ [⟨.tileBlock c0 c1 row col bits, .outOfRange⟩] } ∧
      exec (.tileBlockXor c0 c1 row col bits) s =
        .next { s with results := s.results ++ [⟨.tileBlockXor c0 c1 row col bits, .outOfRange⟩] }) ∧
    (¬(row.toNat * 12 + 11 ≥ 216 ∨ col.toNat * 6 + 5 ≥ 300) →
      (∃ t, exec (.tileBlock c0 c1 row col bits) s = .next t ∧
        t.results = s.results ++ [⟨.tileBlock c0 c1 row col bits, .ok⟩]) ∧
      (∃ t, exec (.tileBlockXor c0 c1 row col bits) s = .next t ∧
        t.results = s.results ++ [⟨.tileBlockXor c0 c1 row col bits, .ok⟩]))

/-- R88: entries 0 to 7 become the eight colours, in order; nothing else changes; status OK. -/
def Obligations.LoadColorsLowSetsTheLowBank : Prop :=
  ∀ (entries : Vector Rgb 8) (s : State), ∃ ct : ColorTable,
    exec (.loadColorsLow entries) s = .next { s with
      display := { s.display with colorTable := ct }
      results := s.results ++ [⟨.loadColorsLow entries, .ok⟩] } ∧
    (∀ k : Fin 8, ct[k.val] = entries[k]) ∧
    (∀ k : Fin 16, 8 ≤ k.val → ct[k] = s.display.colorTable[k])

/-- The effect of LoadColorsHigh in R89 (all of that rule but its derived sentence on commutation): entries 8 to 15 become
the eight colours, in order; nothing else changes; status OK. -/
def Obligations.LoadColorsHighSetsTheHighBank : Prop :=
  ∀ (entries : Vector Rgb 8) (s : State), ∃ ct : ColorTable,
    exec (.loadColorsHigh entries) s = .next { s with
      display := { s.display with colorTable := ct }
      results := s.results ++ [⟨.loadColorsHigh entries, .ok⟩] } ∧
    (∀ k : Fin 8, ct[8 + k.val] = entries[k]) ∧
    (∀ k : Fin 16, k.val < 8 → ct[k] = s.display.colorTable[k])

/-- A preset scroll moves the whole picture by the displacement of its commands and fills what it vacates; nothing else
changes; status OK. This is R94 with the displacements of R92, of which the vertical signs (down is toward larger `y`) are
the spec's own decision D8 (assumption log 11). -/
def Obligations.ScrollPresetShiftsAndFills : Prop :=
  ∀ (c : ColorIndex) (hCmd : BitVec 2) (hOff : BitVec 3) (vCmd : BitVec 2) (vOff : BitVec 4) (s : State),
    let dx : Int := if hCmd = 1 then 6 else if hCmd = 2 then -6 else 0
    let dy : Int := if vCmd = 1 then 12 else if vCmd = 2 then -12 else 0
    ∃ fb : Framebuffer,
      exec (.scrollPreset c hCmd hOff vCmd vOff) s = .next { s with
        display := { s.display with framebuffer := fb }
        results := s.results ++ [⟨.scrollPreset c hCmd hOff vCmd vOff, .ok⟩] } ∧
      (∀ (y sy : Fin 216) (x sx : Fin 300), (sy.val : Int) = y.val - dy → (sx.val : Int) = x.val - dx →
        fb.get y x = s.display.framebuffer.get sy sx) ∧
      (∀ (y : Fin 216) (x : Fin 300),
        ¬(0 ≤ (x.val : Int) - dx ∧ (x.val : Int) - dx ≤ 299 ∧ 0 ≤ (y.val : Int) - dy ∧ (y.val : Int) - dy ≤ 215) →
        fb.get y x = c)

/-- A copy scroll rotates the whole picture by the displacement of its commands; nothing else changes; status OK. R95
marks the rotation as the spec's decision (D6, assumption log 10). -/
def Obligations.ScrollCopyRotates : Prop :=
  ∀ (c : ColorIndex) (hCmd : BitVec 2) (hOff : BitVec 3) (vCmd : BitVec 2) (vOff : BitVec 4) (s : State),
    let dx : Int := if hCmd = 1 then 6 else if hCmd = 2 then -6 else 0
    let dy : Int := if vCmd = 1 then 12 else if vCmd = 2 then -12 else 0
    ∃ fb : Framebuffer,
      exec (.scrollCopy c hCmd hOff vCmd vOff) s = .next { s with
        display := { s.display with framebuffer := fb }
        results := s.results ++ [⟨.scrollCopy c hCmd hOff vCmd vOff, .ok⟩] } ∧
      ∀ (y sy : Fin 216) (x sx : Fin 300),
        (sy.val : Int) = ((y.val : Int) - dy) % 216 → (sx.val : Int) = ((x.val : Int) - dx) % 300 →
        fb.get y x = s.display.framebuffer.get sy sx

/-- R101: `transparent_color` becomes the colour; nothing else changes; status OK. -/
def Obligations.DefineTransparentSetsItsRegister : Prop :=
  ∀ (c : ColorIndex) (s : State),
    exec (.defineTransparent c) s = .next { s with
      display := { s.display with transparentColor := c }
      results := s.results ++ [⟨.defineTransparent c, .ok⟩] }

/-! ### Scroll laws -/

/-- R93: the offsets have no effect on the Display State, for either scroll and for every value; they remain visible at
the decoder's output. -/
def Obligations.ScrollOffsetsHaveNoEffect : Prop :=
  ∀ (c : ColorIndex) (hCmd : BitVec 2) (hOff hOff' : BitVec 3) (vCmd : BitVec 2) (vOff vOff' : BitVec 4) (s : State),
    (∃ t t', exec (.scrollPreset c hCmd hOff vCmd vOff) s = .next t ∧
      exec (.scrollPreset c hCmd hOff' vCmd vOff') s = .next t' ∧ t.display = t'.display ∧
      t.results = s.results ++ [⟨.scrollPreset c hCmd hOff vCmd vOff, .ok⟩]) ∧
    (∃ t t', exec (.scrollCopy c hCmd hOff vCmd vOff) s = .next t ∧
      exec (.scrollCopy c hCmd hOff' vCmd vOff') s = .next t' ∧ t.display = t'.display ∧
      t.results = s.results ++ [⟨.scrollCopy c hCmd hOff vCmd vOff, .ok⟩])

/-- The decoder passes the command code 3 through, and the renderer performs no shift on that axis: the effect is that of
code 0. This is R57, whose passing the code through is the spec's own decision D5 (assumption log 20). -/
def Obligations.ReservedScrollCommandMeansNone : Prop :=
  (∀ rec : Record, rec[0] &&& 0x3F = 9 →
    (rec[1] &&& 0x3F = 20 → ∃ hOff vOff, (decode rec).typed =
      .scrollPreset (colorField rec) ((rec[5] >>> 4).setWidth 2) hOff ((rec[6] >>> 4).setWidth 2) vOff) ∧
    (rec[1] &&& 0x3F = 24 → ∃ hOff vOff, (decode rec).typed =
      .scrollCopy (colorField rec) ((rec[5] >>> 4).setWidth 2) hOff ((rec[6] >>> 4).setWidth 2) vOff)) ∧
  ∀ (c : ColorIndex) (cmd : BitVec 2) (hOff : BitVec 3) (vOff : BitVec 4) (d : Display),
    apply (.scrollPreset c 3 hOff cmd vOff) d = apply (.scrollPreset c 0 hOff cmd vOff) d ∧
    apply (.scrollPreset c cmd hOff 3 vOff) d = apply (.scrollPreset c cmd hOff 0 vOff) d ∧
    apply (.scrollCopy c 3 hOff cmd vOff) d = apply (.scrollCopy c 0 hOff cmd vOff) d ∧
    apply (.scrollCopy c cmd hOff 3 vOff) d = apply (.scrollCopy c cmd hOff 0 vOff) d ∧
    apply (.scrollPreset c 3 hOff 3 vOff) d = (.ok, d) ∧
    apply (.scrollCopy c 3 hOff 3 vOff) d = (.ok, d)

/-- The two axes are independent: one scroll is its horizontal move followed by its vertical move, and the other way
round. The spec marks R96 as derived. -/
def Obligations.ScrollAxesAreIndependent : Prop :=
  ∀ (c : ColorIndex) (hCmd : BitVec 2) (hOff : BitVec 3) (vCmd : BitVec 2) (vOff : BitVec 4) (s : State),
    (∃ t u v, exec (.scrollPreset c hCmd hOff vCmd vOff) s = .next t ∧
      execAll [.scrollPreset c hCmd hOff 0 vOff, .scrollPreset c 0 hOff vCmd vOff] s = .next u ∧
      execAll [.scrollPreset c 0 hOff vCmd vOff, .scrollPreset c hCmd hOff 0 vOff] s = .next v ∧
      t.display = u.display ∧ t.display = v.display) ∧
    (∃ t u v, exec (.scrollCopy c hCmd hOff vCmd vOff) s = .next t ∧
      execAll [.scrollCopy c hCmd hOff 0 vOff, .scrollCopy c 0 hOff vCmd vOff] s = .next u ∧
      execAll [.scrollCopy c 0 hOff vCmd vOff, .scrollCopy c hCmd hOff 0 vOff] s = .next v ∧
      t.display = u.display ∧ t.display = v.display)

/-- The same horizontal preset scroll `n` times: the strip of `6n` columns is the colour, the rest the old picture moved
by `6n`; so the screen is full once `6n >= 300`, and not before. The spec marks R98 as derived. -/
def Obligations.RepeatedHorizontalScrollFills : Prop :=
  ∀ (n : Nat) (c : ColorIndex) (hOff : BitVec 3) (vOff : BitVec 4) (s : State),
    (∃ t, execAll (List.replicate n (.scrollPreset c 1 hOff 0 vOff)) s = .next t ∧
      ∀ (y : Fin 216) (x : Fin 300), (x.val < 6 * n → t.display.framebuffer.get y x = c) ∧
        (∀ x0 : Fin 300, x.val = x0.val + 6 * n →
          t.display.framebuffer.get y x = s.display.framebuffer.get y x0)) ∧
    (∃ t, execAll (List.replicate n (.scrollPreset c 2 hOff 0 vOff)) s = .next t ∧
      ∀ (y : Fin 216) (x : Fin 300), (300 ≤ x.val + 6 * n → t.display.framebuffer.get y x = c) ∧
        (∀ x0 : Fin 300, x0.val = x.val + 6 * n →
          t.display.framebuffer.get y x = s.display.framebuffer.get y x0))

/-- The same vertical preset scroll `n` times: the strip of `12n` rows is the colour, the rest the old picture moved by
`12n`; so the screen is full once `12n >= 216`, and not before. The spec marks R98 as derived. -/
def Obligations.RepeatedVerticalScrollFills : Prop :=
  ∀ (n : Nat) (c : ColorIndex) (hOff : BitVec 3) (vOff : BitVec 4) (s : State),
    (∃ t, execAll (List.replicate n (.scrollPreset c 0 hOff 1 vOff)) s = .next t ∧
      ∀ (y : Fin 216) (x : Fin 300), (y.val < 12 * n → t.display.framebuffer.get y x = c) ∧
        (∀ y0 : Fin 216, y.val = y0.val + 12 * n →
          t.display.framebuffer.get y x = s.display.framebuffer.get y0 x)) ∧
    (∃ t, execAll (List.replicate n (.scrollPreset c 0 hOff 2 vOff)) s = .next t ∧
      ∀ (y : Fin 216) (x : Fin 300), (216 ≤ y.val + 12 * n → t.display.framebuffer.get y x = c) ∧
        (∀ y0 : Fin 216, y0.val = y.val + 12 * n →
          t.display.framebuffer.get y x = s.display.framebuffer.get y0 x))

/-- A left copy scroll undoes a right one, a right one a left one, and likewise up and down. The spec marks R99 as
derived; the rotation is its decision D6 (assumption log 10). -/
def Obligations.OppositeCopyScrollsUndoEachOther : Prop :=
  ∀ (c c' : ColorIndex) (hOff hOff' : BitVec 3) (vOff vOff' : BitVec 4) (s : State),
    (∃ t, execAll [.scrollCopy c 1 hOff 0 vOff, .scrollCopy c' 2 hOff' 0 vOff'] s = .next t ∧ t.display = s.display) ∧
    (∃ t, execAll [.scrollCopy c 2 hOff 0 vOff, .scrollCopy c' 1 hOff' 0 vOff'] s = .next t ∧ t.display = s.display) ∧
    (∃ t, execAll [.scrollCopy c 0 hOff 1 vOff, .scrollCopy c' 0 hOff' 2 vOff'] s = .next t ∧ t.display = s.display) ∧
    (∃ t, execAll [.scrollCopy c 0 hOff 2 vOff, .scrollCopy c' 0 hOff' 1 vOff'] s = .next t ∧ t.display = s.display)

/-- Fifty equal horizontal copy scrolls, or eighteen equal vertical ones, restore the Display State. The spec marks R99 as
derived; the rotation is its decision D6 (assumption log 10). -/
def Obligations.CopyScrollsHaveTheirPeriods : Prop :=
  ∀ (c : ColorIndex) (cmd : BitVec 2) (hOff : BitVec 3) (vOff : BitVec 4) (s : State),
    (∃ t, execAll (List.replicate 50 (.scrollCopy c cmd hOff 0 vOff)) s = .next t ∧ t.display = s.display) ∧
    (∃ t, execAll (List.replicate 18 (.scrollCopy c 0 hOff cmd vOff)) s = .next t ∧ t.display = s.display)

/-- A copy scroll permutes the cells, so that it neither creates nor loses a value: the number of cells that hold any
given value is unchanged. The spec marks R99 as derived; the rotation is its decision D6 (assumption log 10). -/
def Obligations.CopyScrollPermutesTheCells : Prop :=
  ∀ (c : ColorIndex) (hCmd : BitVec 2) (hOff : BitVec 3) (vCmd : BitVec 2) (vOff : BitVec 4) (s : State),
    ∃ t, exec (.scrollCopy c hCmd hOff vCmd vOff) s = .next t ∧
      (∃ move : Equiv.Perm (Fin 216 × Fin 300), ∀ y x, t.display.framebuffer.get y x =
        s.display.framebuffer.get (move (y, x)).1 (move (y, x)).2) ∧
      ∀ v, t.display.framebuffer.count v = s.display.framebuffer.count v

/-! ### Tile laws -/

/-- The same accepted XOR tile twice restores the Display State. The spec marks R83 as derived. -/
def Obligations.XorTileTwiceRestores : Prop :=
  ∀ (c0 c1 : ColorIndex) (row : BitVec 5) (col : BitVec 6) (bits : Vector (BitVec 6) 12) (s : State),
    row.toNat ≤ 17 → col.toNat ≤ 49 →
    ∃ t, execAll [.tileBlockXor c0 c1 row col bits, .tileBlockXor c0 c1 row col bits] s = .next t ∧
      t.display = s.display

/-- Two accepted XOR tiles commute, whatever their places and colours. The spec marks R83 as derived. -/
def Obligations.AcceptedXorTilesCommute : Prop :=
  ∀ (c0 c1 : ColorIndex) (row : BitVec 5) (col : BitVec 6) (bits : Vector (BitVec 6) 12)
    (e0 e1 : ColorIndex) (row' : BitVec 5) (col' : BitVec 6) (bits' : Vector (BitVec 6) 12) (s : State),
    row.toNat ≤ 17 → col.toNat ≤ 49 → row'.toNat ≤ 17 → col'.toNat ≤ 49 →
    ∃ t u, execAll [.tileBlockXor c0 c1 row col bits, .tileBlockXor e0 e1 row' col' bits'] s = .next t ∧
      execAll [.tileBlockXor e0 e1 row' col' bits', .tileBlockXor c0 c1 row col bits] s = .next u ∧
      t.display = u.display

/-- R27: which cells are the border region; that it has 4824 cells; and that the four corners are among them. -/
def Obligations.BorderRegionIsTheRing : Prop :=
  (∀ (y : Fin 216) (x : Fin 300),
    isBorder y x = true ↔ x.val < 3 ∨ x.val ≥ 297 ∨ y.val < 6 ∨ y.val ≥ 210) ∧
  isBorder 0 0 = true ∧ isBorder 0 299 = true ∧ isBorder 215 0 = true ∧ isBorder 215 299 = true ∧
  (Finset.univ.filter fun p : Fin 216 × Fin 300 => isBorder p.1 p.2 = true).card = 4824

/-! ### Whole-machine rules -/

/-- Each index register has one writer (the "written by" sentences of R13, R14 and R15): if an instruction changes it, it
is that instruction, and the new value is its colour. -/
def Obligations.EachIndexRegisterHasOneWriter : Prop :=
  ∀ (i : Instr) (s t : State), exec i s = .next t →
    (t.display.bgColor ≠ s.display.bgColor → i = .memoryPreset t.display.bgColor) ∧
    (t.display.borderColor ≠ s.display.borderColor → i = .borderPreset t.display.borderColor) ∧
    (t.display.transparentColor ≠ s.display.transparentColor → i = .defineTransparent t.display.transparentColor)

/-- Only a load of its own bank changes a colour-table entry (the banks of R16; the footprint table R37, which the spec
marks as derived). -/
def Obligations.OnlyTheBanksLoadChangesAnEntry : Prop :=
  ∀ (i : Instr) (s t : State) (k : Fin 16), exec i s = .next t →
    t.display.colorTable[k] ≠ s.display.colorTable[k] →
    (k.val < 8 ∧ ∃ entries, i = .loadColorsLow entries) ∨ (8 ≤ k.val ∧ ∃ entries, i = .loadColorsHigh entries)

/-- A cell outside an instruction's footprint never changes (the footprint table R37, which the spec marks as derived). -/
def Obligations.CellsOutsideTheFootprintNeverChange : Prop :=
  ∀ (i : Instr) (s t : State) (y : Fin 216) (x : Fin 300), exec i s = .next t → ¬i.typed.WritesCell y x →
    t.display.framebuffer.get y x = s.display.framebuffer.get y x

/-- R102: `OutOfRange` leaves the Display State exactly as it was, and it is raised by the two tile instructions only,
exactly when the placement is outside the grid. -/
def Obligations.OutOfRangeIsRaisedByTilesOnly : Prop :=
  ∀ (i : Instr) (s t : State), exec i s = .next t →
    (t.results = s.results ++ [⟨i.typed, .outOfRange⟩] → t.display = s.display) ∧
    (t.results = s.results ++ [⟨i.typed, .outOfRange⟩] ↔
      ∃ c0 c1 row col bits, (i = .tileBlock c0 c1 row col bits ∨ i = .tileBlockXor c0 c1 row col bits) ∧
        (row.toNat * 12 + 11 ≥ 216 ∨ col.toNat * 6 + 5 ≥ 300))

/-- R19 as an invariant of every step, from every state that meets it: a status is `OutOfRange` exactly when its
instruction is a tile outside the grid, so that every accepted tile has row at most 17 and column at most 49. -/
def Obligations.EveryStepKeepsTheStatusInvariant : Prop :=
  ∀ s t : State, s.StatusesTell → step s = .next t → t.StatusesTell

/-- The status invariant of R19 holds right after reset. -/
def Obligations.StatusInvariantHoldsAtReset : Prop := State.reset.StatusesTell

/-- A run stays safe (every status OK) as long as the records' tiles lie in the grid; derived from R79 and R103. -/
def Obligations.InGridRecordsKeepARunSafe : Prop :=
  ∀ s t : State, s.AllOk → (∀ rec rest, s.input = .record rec :: rest → (decode rec).typed.InGrid) →
    step s = .next t → t.AllOk

/-- Nothing but the Display State and the instruction decides the next Display State and the status: what is put out and
what waits never matters (derived from R12, R20 and R21; the two fields are assumption log 2). -/
def Obligations.OnlyTheDisplayDecidesTheDisplay : Prop :=
  ∀ (i : Instr) (s s' t t' : State), s.display = s'.display → exec i s = .next t → exec i s' = .next t' →
    t.display = t'.display ∧ ∃ r, t.results = s.results ++ [r] ∧ t'.results = s'.results ++ [r]

/-- `OutOfRange` is not sticky: after it, any instruction does what it would have done without it, and its result is the
same. The spec marks R110 as its decision (D11). -/
def Obligations.OutOfRangeIsNotSticky : Prop :=
  ∀ (bad i : Instr) (s : State), ¬bad.typed.InGrid → ∃ t u r, execAll [bad, i] s = .next t ∧ exec i s = .next u ∧
    t.display = u.display ∧ t.results = s.results ++ [⟨bad.typed, .outOfRange⟩, r] ∧ u.results = s.results ++ [r]

/-- The instructions that the footprint table R37 calls idempotent change nothing more when applied twice. The spec marks
R37 as derived. -/
def Obligations.IdempotentInstructions : Prop :=
  ∀ (i : Instr) (s : State), i.typed.Idempotent →
    ∃ t u, exec i s = .next t ∧ execAll [i, i] s = .next u ∧ t.display = u.display

/-- The two bank loads commute with each other, and each of them with every instruction that loads no bank. R89 marks this
as derived. -/
def Obligations.BankLoadsCommute : Prop :=
  ∀ (low high : Vector Rgb 8) (i : Instr) (s : State),
    (∃ t u, execAll [.loadColorsLow low, .loadColorsHigh high] s = .next t ∧
      execAll [.loadColorsHigh high, .loadColorsLow low] s = .next u ∧ t.display = u.display) ∧
    (¬i.typed.LoadsColors →
      (∃ t u, execAll [.loadColorsLow low, i] s = .next t ∧ execAll [i, .loadColorsLow low] s = .next u ∧
        t.display = u.display) ∧
      (∃ t u, execAll [.loadColorsHigh high, i] s = .next t ∧ execAll [i, .loadColorsHigh high] s = .next u ∧
        t.display = u.display))

/-- A memory preset and the two bank loads first: from any two states that agree in the other two index registers, every
program gives one and the same Display State, whatever the framebuffer and the colour table held, at reset or later. The
spec marks R120 as its decision (D17). -/
def Obligations.PresetsMakeThePictureKnown : Prop :=
  ∀ (c : ColorIndex) (low high : Vector Rgb 8) (program : List Instr) (s s' : State),
    s.display.borderColor = s'.display.borderColor →
    s.display.transparentColor = s'.display.transparentColor →
    ∃ t t', execAll (.memoryPreset c :: .loadColorsLow low :: .loadColorsHigh high :: program) s = .next t ∧
      execAll (.memoryPreset c :: .loadColorsLow low :: .loadColorsHigh high :: program) s' = .next t' ∧
      t.display = t'.display
end

