-- ==== Sys2Proof/Laws/Grid.lean ====
section
/-! SUPPORT. What every shared operation on the framebuffer and the colour table does, cell by cell. Later proofs cite
these lemmas and never unfold the operations. -/

namespace Sys2Proof.Laws

open Sys2Proof.Machine

@[simp] theorem getElem_tabulate {α : Type} {n : Nat} (f : Fin n → α) (i : Nat) (h : i < n) :
    (tabulate f)[i] = f ⟨i, h⟩ := by
  simp [tabulate]

/-- Reading a cell of a framebuffer given cell by cell (R25, R38). -/
@[simp] theorem get_ofCells (f : Fin 216 → Fin 300 → ColorIndex) (y : Fin 216) (x : Fin 300) :
    (Framebuffer.ofCells f).get y x = f y x := by
  simp [Framebuffer.get, Framebuffer.ofCells]

/-- Two framebuffers with the same cells are the same data. -/
theorem framebuffer_ext {a b : Framebuffer} (h : ∀ y x, a.get y x = b.get y x) : a = b := by
  apply Vector.ext
  intro y hy
  apply Vector.ext
  intro x hx
  exact h ⟨y, hy⟩ ⟨x, hx⟩

/-- A framebuffer is given by its cells. -/
@[simp] theorem ofCells_get (fb : Framebuffer) : Framebuffer.ofCells (fun y x => fb.get y x) = fb :=
  framebuffer_ext fun y x => get_ofCells _ y x

/-- Reading inside the grid at integer coordinates. -/
theorem get?_inside (fb : Framebuffer) (y x : Int) (h : 0 ≤ y ∧ y ≤ 215 ∧ 0 ≤ x ∧ x ≤ 299) :
    fb.get? y x = some (fb.get ⟨y.toNat, by omega⟩ ⟨x.toNat, by omega⟩) := by
  simp only [Framebuffer.get?, h, and_self, ↓reduceDIte]

/-- Reading outside the grid at integer coordinates. -/
theorem get?_outside (fb : Framebuffer) (y x : Int) (h : ¬(0 ≤ y ∧ y ≤ 215 ∧ 0 ≤ x ∧ x ≤ 299)) :
    fb.get? y x = none := by
  simp only [Framebuffer.get?, h, ↓reduceDIte]

/-- A whole-grid fill (R74). -/
@[simp] theorem get_fill (c : ColorIndex) (y : Fin 216) (x : Fin 300) : (Framebuffer.fill c).get y x = c := by
  simp [Framebuffer.fill]

/-- A border fill (R76). -/
@[simp] theorem get_fillBorder (fb : Framebuffer) (c : ColorIndex) (y : Fin 216) (x : Fin 300) :
    (fb.fillBorder c).get y x = if isBorder y x then c else fb.get y x := by
  simp [Framebuffer.fillBorder]

/-- The border region in the words of R27. -/
theorem isBorder_iff (y : Fin 216) (x : Fin 300) :
    isBorder y x = true ↔ x.val < 3 ∨ 297 ≤ x.val ∨ y.val < 6 ∨ 210 ≤ y.val := by
  simp [isBorder, or_assoc]

/-- A cell of the painted tile (R29, R81, R82). -/
theorem get_paintTile_inside (fb : Framebuffer) (row column : Nat) (new : Fin 12 → Fin 6 → ColorIndex → ColorIndex)
    (y : Fin 216) (x : Fin 300) (i : Fin 12) (j : Fin 6) (hy : y.val = row * 12 + i.val)
    (hx : x.val = column * 6 + j.val) : (fb.paintTile row column new).get y x = new i j (fb.get y x) := by
  have h : row * 12 ≤ y.val ∧ y.val < row * 12 + 12 ∧ column * 6 ≤ x.val ∧ x.val < column * 6 + 6 := by omega
  have hi : (⟨y.val - row * 12, by omega⟩ : Fin 12) = i := Fin.ext (by simp only; omega)
  have hj : (⟨x.val - column * 6, by omega⟩ : Fin 6) = j := Fin.ext (by simp only; omega)
  simp only [Framebuffer.paintTile, get_ofCells, h, and_self, ↓reduceDIte, hi, hj]

/-- A cell outside the painted tile. -/
theorem get_paintTile_outside (fb : Framebuffer) (row column : Nat) (new : Fin 12 → Fin 6 → ColorIndex → ColorIndex)
    (y : Fin 216) (x : Fin 300)
    (h : ¬(row * 12 ≤ y.val ∧ y.val < row * 12 + 12 ∧ column * 6 ≤ x.val ∧ x.val < column * 6 + 6)) :
    (fb.paintTile row column new).get y x = fb.get y x := by
  simp only [Framebuffer.paintTile, get_ofCells, h, ↓reduceDIte]

/-- A shifted picture (R94). -/
@[simp] theorem get_shift (fb : Framebuffer) (dy dx : Int) (c : ColorIndex) (y : Fin 216) (x : Fin 300) :
    (fb.shift dy dx c).get y x = (fb.get? (y.val - dy) (x.val - dx)).getD c := by
  simp [Framebuffer.shift]

/-- A rotated picture (R95). -/
@[simp] theorem get_rotate (fb : Framebuffer) (dy dx : Int) (y : Fin 216) (x : Fin 300) :
    (fb.rotate dy dx).get y x = fb.get (wrapRow (y.val - dy)) (wrapColumn (x.val - dx)) := by
  simp [Framebuffer.rotate]

/-- A shifted picture where the source lies in the grid (R94). -/
theorem get_shift_inside (fb : Framebuffer) (dy dx : Int) (c : ColorIndex) (y sy : Fin 216) (x sx : Fin 300)
    (hy : (sy.val : Int) = y.val - dy) (hx : (sx.val : Int) = x.val - dx) :
    (fb.shift dy dx c).get y x = fb.get sy sx := by
  rw [get_shift, ← hy, ← hx, get?_inside _ _ _ (by omega)]
  simp

/-- A shifted picture where the source lies outside the grid (R94). -/
theorem get_shift_outside (fb : Framebuffer) (dy dx : Int) (c : ColorIndex) (y : Fin 216) (x : Fin 300)
    (h : ¬(0 ≤ (y.val : Int) - dy ∧ (y.val : Int) - dy ≤ 215 ∧ 0 ≤ (x.val : Int) - dx ∧ (x.val : Int) - dx ≤ 299)) :
    (fb.shift dy dx c).get y x = c := by
  rw [get_shift, get?_outside _ _ _ h]
  rfl

/-- A shift by nothing changes nothing (R94, corner case (a)). -/
@[simp] theorem shift_zero (fb : Framebuffer) (c : ColorIndex) : fb.shift 0 0 c = fb :=
  framebuffer_ext fun y x => get_shift_inside fb 0 0 c y y x x (by omega) (by omega)

/-- The number of a wrapped row. -/
@[simp] theorem wrapRow_val (y : Int) : ((wrapRow y).val : Int) = y % 216 := by
  simp only [wrapRow]; omega

/-- The number of a wrapped column. -/
@[simp] theorem wrapColumn_val (x : Int) : ((wrapColumn x).val : Int) = x % 300 := by
  simp only [wrapColumn]; omega

/-- Wrapping twice by distances that add up (R99). -/
theorem wrapRow_sub (y d e : Int) : wrapRow ((wrapRow (y - d)).val - e) = wrapRow (y - (d + e)) :=
  Fin.ext (by simp only [wrapRow]; omega)

/-- Wrapping twice by distances that add up (R99). -/
theorem wrapColumn_sub (x d e : Int) : wrapColumn ((wrapColumn (x - d)).val - e) = wrapColumn (x - (d + e)) :=
  Fin.ext (by simp only [wrapColumn]; omega)

/-- Wrapping a row that is in the grid. -/
theorem wrapRow_of_lt (y : Int) (r : Fin 216) (h : y % 216 = r.val) : wrapRow y = r :=
  Fin.ext (by simp only [wrapRow]; omega)

/-- Wrapping a column that is in the grid. -/
theorem wrapColumn_of_lt (x : Int) (c : Fin 300) (h : x % 300 = c.val) : wrapColumn x = c :=
  Fin.ext (by simp only [wrapColumn]; omega)

/-- A rotation by whole turns changes nothing (R95, R99). -/
theorem rotate_turns (fb : Framebuffer) (dy dx : Int) (hy : dy % 216 = 0) (hx : dx % 300 = 0) :
    fb.rotate dy dx = fb :=
  framebuffer_ext fun y x => by
    rw [get_rotate, wrapRow_of_lt _ y (by omega), wrapColumn_of_lt _ x (by omega)]

/-- A rotation by nothing changes nothing (R95, corner case (a)). -/
@[simp] theorem rotate_zero (fb : Framebuffer) : fb.rotate 0 0 = fb := rotate_turns fb 0 0 rfl rfl

/-- Two rotations are one (R95). -/
theorem rotate_rotate (fb : Framebuffer) (dy dx ey ex : Int) :
    (fb.rotate dy dx).rotate ey ex = fb.rotate (dy + ey) (dx + ex) := by
  apply framebuffer_ext
  intro y x
  simp only [get_rotate, wrapRow_sub, wrapColumn_sub, Int.add_comm dy, Int.add_comm dx]

/-- The low bank after a low load (R88). -/
theorem setLow_low (ct : ColorTable) (entries : Vector Rgb 8) (k : Nat) (h : k < 8) :
    (ct.setLow entries)[k] = entries[k] := by
  simp [ColorTable.setLow, h]

/-- The high bank after a low load (R88). -/
theorem setLow_high (ct : ColorTable) (entries : Vector Rgb 8) (k : Nat) (hk : k < 16) (h : 8 ≤ k) :
    (ct.setLow entries)[k] = ct[k] := by
  simp [ColorTable.setLow, Nat.not_lt.mpr h]

/-- The high bank after a high load (R89). -/
theorem setHigh_high (ct : ColorTable) (entries : Vector Rgb 8) (k : Nat) (h : k < 8) :
    (ct.setHigh entries)[8 + k] = entries[k] := by
  simp [ColorTable.setHigh]

/-- The low bank after a high load (R89). -/
theorem setHigh_low (ct : ColorTable) (entries : Vector Rgb 8) (k : Nat) (h : k < 8) :
    (ct.setHigh entries)[k] = ct[k] := by
  simp [ColorTable.setHigh, Nat.not_le.mpr h]

end Sys2Proof.Laws
end

