-- ==== Sys2Proof/Laws/State.lean ====
section
/-! SUPPORT. One lemma per field per update of the state, and what a tile placement can do. -/

namespace Sys2Proof.Laws

open Sys2Proof.Machine

@[simp] theorem emit_display (s : State) (t : TypedInstr) (r : Status × Display) : (s.emit t r).display = r.2 := rfl
@[simp] theorem emit_input (s : State) (t : TypedInstr) (r : Status × Display) : (s.emit t r).input = s.input := rfl
@[simp] theorem emit_results (s : State) (t : TypedInstr) (r : Status × Display) :
    (s.emit t r).results = s.results ++ [⟨t, r.1⟩] := rfl

@[simp] theorem succeed_fst (d : Display) : (succeed d).1 = .ok := rfl
@[simp] theorem succeed_snd (d : Display) : (succeed d).2 = d := rfl
@[simp] theorem raiseOutOfRange_fst (d : Display) : (raiseOutOfRange d).1 = .outOfRange := rfl
@[simp] theorem raiseOutOfRange_snd (d : Display) : (raiseOutOfRange d).2 = d := rfl

@[simp] theorem hold_eq (s : State) : s.hold = s := rfl
@[simp] theorem takeRecord_display (s : State) (rest : List Event) : (s.takeRecord rest).display = s.display := rfl
@[simp] theorem takeRecord_input (s : State) (rest : List Event) : (s.takeRecord rest).input = rest := rfl
@[simp] theorem takeRecord_results (s : State) (rest : List Event) : (s.takeRecord rest).results = s.results := rfl
@[simp] theorem takeReset_display (s : State) (rest : List Event) : (s.takeReset rest).display = Display.reset := rfl
@[simp] theorem takeReset_input (s : State) (rest : List Event) : (s.takeReset rest).input = rest := rfl
@[simp] theorem takeReset_results (s : State) (rest : List Event) : (s.takeReset rest).results = s.results := rfl
@[simp] theorem supply_display (s : State) (rec : Record) : (s.supply rec).display = s.display := rfl
@[simp] theorem supply_input (s : State) (rec : Record) : (s.supply rec).input = .record rec :: s.input := rfl
@[simp] theorem supply_results (s : State) (rec : Record) : (s.supply rec).results = s.results := rfl

/-- The bounds test in the two forms of R79. -/
theorem tileOutOfRange_iff (row : BitVec 5) (column : BitVec 6) :
    tileOutOfRange row column = true ↔ 18 ≤ row.toNat ∨ 50 ≤ column.toNat := by
  simp only [tileOutOfRange, Bool.or_eq_true, decide_eq_true_eq]
  omega

/-- A rejected placement (R79, R102). -/
theorem placeTile_rejected {row : BitVec 5} {column : BitVec 6} (h : tileOutOfRange row column = true)
    (new : Fin 12 → Fin 6 → ColorIndex → ColorIndex) (d : Display) :
    placeTile row column new d = (.outOfRange, d) := by
  simp [placeTile, h, raiseOutOfRange]

/-- An accepted placement (R81, R82). -/
theorem placeTile_accepted {row : BitVec 5} {column : BitVec 6} (h : tileOutOfRange row column = false)
    (new : Fin 12 → Fin 6 → ColorIndex → ColorIndex) (d : Display) :
    placeTile row column new d =
      (.ok, { d with framebuffer := d.framebuffer.paintTile row.toNat column.toNat new }) := by
  simp [placeTile, h, succeed]

end Sys2Proof.Laws
end

