-- ==== Sys2Proof/Laws/Apply.lean ====
section
/-! SUPPORT. What `apply` answers for each typed instruction, so that later proofs never unfold an apply rule. -/

namespace Sys2Proof.Laws

open Sys2Proof.Machine

@[simp] theorem apply_empty (d : Display) : apply .empty d = (.ok, d) := rfl

@[simp] theorem apply_memoryPreset (c : ColorIndex) (d : Display) :
    apply (.memoryPreset c) d = (.ok, { d with framebuffer := .fill c, bgColor := c }) := rfl

@[simp] theorem apply_borderPreset (c : ColorIndex) (d : Display) :
    apply (.borderPreset c) d = (.ok, { d with framebuffer := d.framebuffer.fillBorder c, borderColor := c }) := rfl

theorem apply_tileBlock_accepted {row : BitVec 5} {col : BitVec 6} (hr : row.toNat ≤ 17) (hc : col.toNat ≤ 49)
    (c0 c1 : ColorIndex) (bits : Vector (BitVec 6) 12) (d : Display) :
    apply (.tileBlock c0 c1 row col bits) d =
      (.ok, { d with framebuffer := d.framebuffer.paintTile row.toNat col.toNat (fun i j _ => sel c0 c1 bits i j) }) :=
  placeTile_accepted (by rw [← Bool.not_eq_true, tileOutOfRange_iff]; omega) _ d

theorem apply_tileBlock_rejected {row : BitVec 5} {col : BitVec 6} (h : 18 ≤ row.toNat ∨ 50 ≤ col.toNat)
    (c0 c1 : ColorIndex) (bits : Vector (BitVec 6) 12) (d : Display) :
    apply (.tileBlock c0 c1 row col bits) d = (.outOfRange, d) :=
  placeTile_rejected ((tileOutOfRange_iff row col).mpr h) _ d

theorem apply_tileBlockXor_accepted {row : BitVec 5} {col : BitVec 6} (hr : row.toNat ≤ 17) (hc : col.toNat ≤ 49)
    (c0 c1 : ColorIndex) (bits : Vector (BitVec 6) 12) (d : Display) :
    apply (.tileBlockXor c0 c1 row col bits) d =
      (.ok, { d with
        framebuffer := d.framebuffer.paintTile row.toNat col.toNat (fun i j old => old ^^^ sel c0 c1 bits i j) }) :=
  placeTile_accepted (by rw [← Bool.not_eq_true, tileOutOfRange_iff]; omega) _ d

theorem apply_tileBlockXor_rejected {row : BitVec 5} {col : BitVec 6} (h : 18 ≤ row.toNat ∨ 50 ≤ col.toNat)
    (c0 c1 : ColorIndex) (bits : Vector (BitVec 6) 12) (d : Display) :
    apply (.tileBlockXor c0 c1 row col bits) d = (.outOfRange, d) :=
  placeTile_rejected ((tileOutOfRange_iff row col).mpr h) _ d

@[simp] theorem apply_loadColorsLow (entries : Vector Rgb 8) (d : Display) :
    apply (.loadColorsLow entries) d = (.ok, { d with colorTable := d.colorTable.setLow entries }) := rfl

@[simp] theorem apply_loadColorsHigh (entries : Vector Rgb 8) (d : Display) :
    apply (.loadColorsHigh entries) d = (.ok, { d with colorTable := d.colorTable.setHigh entries }) := rfl

@[simp] theorem apply_scrollPreset (c : ColorIndex) (h : BitVec 2) (ho : BitVec 3) (v : BitVec 2) (vo : BitVec 4)
    (d : Display) : apply (.scrollPreset c h ho v vo) d =
      (.ok, { d with framebuffer := d.framebuffer.shift (scrollDy v) (scrollDx h) c }) := rfl

@[simp] theorem apply_scrollCopy (c : ColorIndex) (h : BitVec 2) (ho : BitVec 3) (v : BitVec 2) (vo : BitVec 4)
    (d : Display) : apply (.scrollCopy c h ho v vo) d =
      (.ok, { d with framebuffer := d.framebuffer.rotate (scrollDy v) (scrollDx h) }) := rfl

@[simp] theorem apply_defineTransparent (c : ColorIndex) (d : Display) :
    apply (.defineTransparent c) d = (.ok, { d with transparentColor := c }) := rfl

end Sys2Proof.Laws
end

