-- ==== Sys2Proof/Laws/Fits.lean ====
section
/-! SUPPORT. A bit vector fits a field of its own width, and so do the operand groups of the instructions
(spec/30_encoding.md R52, R53). -/

namespace Sys2Proof.Laws

theorem fits_toNat {w : Nat} (v : BitVec w) : fits w v.toNat = true := by
  simpa [fits] using v.isLt

theorem tileFits_toNat (color0 color1 : ColorIndex) (row : BitVec 5) (column : BitVec 6)
    (bits : Vector (BitVec 6) 12) :
    tileFits color0.toNat color1.toNat row.toNat column.toNat (bits.toList.map BitVec.toNat) = true := by
  simp [tileFits, fits_toNat]

theorem entriesFit_raw (entries : Vector Rgb 8) : entriesFit (entries.toList.map Rgb.raw) = true := by
  simp [entriesFit, Rgb.raw, fits_toNat]

theorem scrollFits_toNat (color : ColorIndex) (hCmd : BitVec 2) (hOff : BitVec 3) (vCmd : BitVec 2) (vOff : BitVec 4) :
    scrollFits color.toNat hCmd.toNat hOff.toNat vCmd.toNat vOff.toNat = true := by
  simp [scrollFits, fits_toNat]

end Sys2Proof.Laws
end

