-- ==== Sys2Proof/Laws/PerInstr.lean ====
section
/-! SUPPORT. One lemma per constructor of Instr: every instruction's fields have the widths of
spec/30_encoding.md R52 (R53), so every instruction is well-formed. -/

namespace Sys2Proof.Laws.FieldWidths

/-- The instruction's fields, written out as plain numbers, all fit the widths of R52. -/
def Statement (i : Instr) : Prop := i.wellFormed = true

theorem memoryPreset (color : ColorIndex) :
    Statement (.memoryPreset color) :=
  fits_toNat _

theorem borderPreset (color : ColorIndex) :
    Statement (.borderPreset color) :=
  fits_toNat _

theorem tileBlock (color0 color1 : ColorIndex) (row : BitVec 5) (column : BitVec 6) (bits : Vector (BitVec 6) 12) :
    Statement (.tileBlock color0 color1 row column bits) :=
  tileFits_toNat _ _ _ _ _

theorem scrollPreset (color : ColorIndex) (hCmd : BitVec 2) (hOff : BitVec 3) (vCmd : BitVec 2) (vOff : BitVec 4) :
    Statement (.scrollPreset color hCmd hOff vCmd vOff) :=
  scrollFits_toNat _ _ _ _ _

theorem scrollCopy (color : ColorIndex) (hCmd : BitVec 2) (hOff : BitVec 3) (vCmd : BitVec 2) (vOff : BitVec 4) :
    Statement (.scrollCopy color hCmd hOff vCmd vOff) :=
  scrollFits_toNat _ _ _ _ _

theorem defineTransparent (color : ColorIndex) :
    Statement (.defineTransparent color) :=
  fits_toNat _

theorem loadColorsLow (entries : Vector Rgb 8) :
    Statement (.loadColorsLow entries) :=
  entriesFit_raw _

theorem loadColorsHigh (entries : Vector Rgb 8) :
    Statement (.loadColorsHigh entries) :=
  entriesFit_raw _

theorem tileBlockXor (color0 color1 : ColorIndex) (row : BitVec 5) (column : BitVec 6) (bits : Vector (BitVec 6) 12) :
    Statement (.tileBlockXor color0 color1 row column bits) :=
  tileFits_toNat _ _ _ _ _

theorem emptyRepeat01 : Statement .emptyRepeat01 := rfl

theorem emptyRepeat02 : Statement .emptyRepeat02 := rfl

theorem emptyRepeat03 : Statement .emptyRepeat03 := rfl

theorem emptyRepeat04 : Statement .emptyRepeat04 := rfl

theorem emptyRepeat05 : Statement .emptyRepeat05 := rfl

theorem emptyRepeat06 : Statement .emptyRepeat06 := rfl

theorem emptyRepeat07 : Statement .emptyRepeat07 := rfl

theorem emptyRepeat08 : Statement .emptyRepeat08 := rfl

theorem emptyRepeat09 : Statement .emptyRepeat09 := rfl

theorem emptyRepeat10 : Statement .emptyRepeat10 := rfl

theorem emptyRepeat11 : Statement .emptyRepeat11 := rfl

theorem emptyRepeat12 : Statement .emptyRepeat12 := rfl

theorem emptyRepeat13 : Statement .emptyRepeat13 := rfl

theorem emptyRepeat14 : Statement .emptyRepeat14 := rfl

theorem emptyRepeat15 : Statement .emptyRepeat15 := rfl

theorem emptyReserved00 : Statement .emptyReserved00 := rfl

theorem emptyReserved03 : Statement .emptyReserved03 := rfl

theorem emptyReserved04 : Statement .emptyReserved04 := rfl

theorem emptyReserved05 : Statement .emptyReserved05 := rfl

theorem emptyReserved07 : Statement .emptyReserved07 := rfl

theorem emptyReserved08 : Statement .emptyReserved08 := rfl

theorem emptyReserved09 : Statement .emptyReserved09 := rfl

theorem emptyReserved10 : Statement .emptyReserved10 := rfl

theorem emptyReserved11 : Statement .emptyReserved11 := rfl

theorem emptyReserved12 : Statement .emptyReserved12 := rfl

theorem emptyReserved13 : Statement .emptyReserved13 := rfl

theorem emptyReserved14 : Statement .emptyReserved14 := rfl

theorem emptyReserved15 : Statement .emptyReserved15 := rfl

theorem emptyReserved16 : Statement .emptyReserved16 := rfl

theorem emptyReserved17 : Statement .emptyReserved17 := rfl

theorem emptyReserved18 : Statement .emptyReserved18 := rfl

theorem emptyReserved19 : Statement .emptyReserved19 := rfl

theorem emptyReserved21 : Statement .emptyReserved21 := rfl

theorem emptyReserved22 : Statement .emptyReserved22 := rfl

theorem emptyReserved23 : Statement .emptyReserved23 := rfl

theorem emptyReserved25 : Statement .emptyReserved25 := rfl

theorem emptyReserved26 : Statement .emptyReserved26 := rfl

theorem emptyReserved27 : Statement .emptyReserved27 := rfl

theorem emptyReserved29 : Statement .emptyReserved29 := rfl

theorem emptyReserved32 : Statement .emptyReserved32 := rfl

theorem emptyReserved33 : Statement .emptyReserved33 := rfl

theorem emptyReserved34 : Statement .emptyReserved34 := rfl

theorem emptyReserved35 : Statement .emptyReserved35 := rfl

theorem emptyReserved36 : Statement .emptyReserved36 := rfl

theorem emptyReserved37 : Statement .emptyReserved37 := rfl

theorem emptyReserved39 : Statement .emptyReserved39 := rfl

theorem emptyReserved40 : Statement .emptyReserved40 := rfl

theorem emptyReserved41 : Statement .emptyReserved41 := rfl

theorem emptyReserved42 : Statement .emptyReserved42 := rfl

theorem emptyReserved43 : Statement .emptyReserved43 := rfl

theorem emptyReserved44 : Statement .emptyReserved44 := rfl

theorem emptyReserved45 : Statement .emptyReserved45 := rfl

theorem emptyReserved46 : Statement .emptyReserved46 := rfl

theorem emptyReserved47 : Statement .emptyReserved47 := rfl

theorem emptyReserved48 : Statement .emptyReserved48 := rfl

theorem emptyReserved49 : Statement .emptyReserved49 := rfl

theorem emptyReserved50 : Statement .emptyReserved50 := rfl

theorem emptyReserved51 : Statement .emptyReserved51 := rfl

theorem emptyReserved52 : Statement .emptyReserved52 := rfl

theorem emptyReserved53 : Statement .emptyReserved53 := rfl

theorem emptyReserved54 : Statement .emptyReserved54 := rfl

theorem emptyReserved55 : Statement .emptyReserved55 := rfl

theorem emptyReserved56 : Statement .emptyReserved56 := rfl

theorem emptyReserved57 : Statement .emptyReserved57 := rfl

theorem emptyReserved58 : Statement .emptyReserved58 := rfl

theorem emptyReserved59 : Statement .emptyReserved59 := rfl

theorem emptyReserved60 : Statement .emptyReserved60 := rfl

theorem emptyReserved61 : Statement .emptyReserved61 := rfl

theorem emptyReserved62 : Statement .emptyReserved62 := rfl

theorem emptyReserved63 : Statement .emptyReserved63 := rfl

theorem emptyNotcdg00 : Statement .emptyNotcdg00 := rfl

theorem emptyNotcdg01 : Statement .emptyNotcdg01 := rfl

theorem emptyNotcdg02 : Statement .emptyNotcdg02 := rfl

theorem emptyNotcdg03 : Statement .emptyNotcdg03 := rfl

theorem emptyNotcdg04 : Statement .emptyNotcdg04 := rfl

theorem emptyNotcdg05 : Statement .emptyNotcdg05 := rfl

theorem emptyNotcdg06 : Statement .emptyNotcdg06 := rfl

theorem emptyNotcdg07 : Statement .emptyNotcdg07 := rfl

theorem emptyNotcdg08 : Statement .emptyNotcdg08 := rfl

theorem emptyNotcdg10 : Statement .emptyNotcdg10 := rfl

theorem emptyNotcdg11 : Statement .emptyNotcdg11 := rfl

theorem emptyNotcdg12 : Statement .emptyNotcdg12 := rfl

theorem emptyNotcdg13 : Statement .emptyNotcdg13 := rfl

theorem emptyNotcdg14 : Statement .emptyNotcdg14 := rfl

theorem emptyNotcdg15 : Statement .emptyNotcdg15 := rfl

theorem emptyNotcdg16 : Statement .emptyNotcdg16 := rfl

theorem emptyNotcdg17 : Statement .emptyNotcdg17 := rfl

theorem emptyNotcdg18 : Statement .emptyNotcdg18 := rfl

theorem emptyNotcdg19 : Statement .emptyNotcdg19 := rfl

theorem emptyNotcdg20 : Statement .emptyNotcdg20 := rfl

theorem emptyNotcdg21 : Statement .emptyNotcdg21 := rfl

theorem emptyNotcdg22 : Statement .emptyNotcdg22 := rfl

theorem emptyNotcdg23 : Statement .emptyNotcdg23 := rfl

theorem emptyNotcdg24 : Statement .emptyNotcdg24 := rfl

theorem emptyNotcdg25 : Statement .emptyNotcdg25 := rfl

theorem emptyNotcdg26 : Statement .emptyNotcdg26 := rfl

theorem emptyNotcdg27 : Statement .emptyNotcdg27 := rfl

theorem emptyNotcdg28 : Statement .emptyNotcdg28 := rfl

theorem emptyNotcdg29 : Statement .emptyNotcdg29 := rfl

theorem emptyNotcdg30 : Statement .emptyNotcdg30 := rfl

theorem emptyNotcdg31 : Statement .emptyNotcdg31 := rfl

theorem emptyNotcdg32 : Statement .emptyNotcdg32 := rfl

theorem emptyNotcdg33 : Statement .emptyNotcdg33 := rfl

theorem emptyNotcdg34 : Statement .emptyNotcdg34 := rfl

theorem emptyNotcdg35 : Statement .emptyNotcdg35 := rfl

theorem emptyNotcdg36 : Statement .emptyNotcdg36 := rfl

theorem emptyNotcdg37 : Statement .emptyNotcdg37 := rfl

theorem emptyNotcdg38 : Statement .emptyNotcdg38 := rfl

theorem emptyNotcdg39 : Statement .emptyNotcdg39 := rfl

theorem emptyNotcdg40 : Statement .emptyNotcdg40 := rfl

theorem emptyNotcdg41 : Statement .emptyNotcdg41 := rfl

theorem emptyNotcdg42 : Statement .emptyNotcdg42 := rfl

theorem emptyNotcdg43 : Statement .emptyNotcdg43 := rfl

theorem emptyNotcdg44 : Statement .emptyNotcdg44 := rfl

theorem emptyNotcdg45 : Statement .emptyNotcdg45 := rfl

theorem emptyNotcdg46 : Statement .emptyNotcdg46 := rfl

theorem emptyNotcdg47 : Statement .emptyNotcdg47 := rfl

theorem emptyNotcdg48 : Statement .emptyNotcdg48 := rfl

theorem emptyNotcdg49 : Statement .emptyNotcdg49 := rfl

theorem emptyNotcdg50 : Statement .emptyNotcdg50 := rfl

theorem emptyNotcdg51 : Statement .emptyNotcdg51 := rfl

theorem emptyNotcdg52 : Statement .emptyNotcdg52 := rfl

theorem emptyNotcdg53 : Statement .emptyNotcdg53 := rfl

theorem emptyNotcdg54 : Statement .emptyNotcdg54 := rfl

theorem emptyNotcdg55 : Statement .emptyNotcdg55 := rfl

theorem emptyNotcdg56 : Statement .emptyNotcdg56 := rfl

theorem emptyNotcdg57 : Statement .emptyNotcdg57 := rfl

theorem emptyNotcdg58 : Statement .emptyNotcdg58 := rfl

theorem emptyNotcdg59 : Statement .emptyNotcdg59 := rfl

theorem emptyNotcdg60 : Statement .emptyNotcdg60 := rfl

theorem emptyNotcdg61 : Statement .emptyNotcdg61 := rfl

theorem emptyNotcdg62 : Statement .emptyNotcdg62 := rfl

theorem emptyNotcdg63 : Statement .emptyNotcdg63 := rfl

end Sys2Proof.Laws.FieldWidths
end

