-- ==== Sys2Proof/Tests/Slice0.lean ====
section
/-! SUPPORT. The model's own tests: the well-formedness smoke test, words written out from the spec's encodings and test
vectors (spec/95_test_vectors.md), single steps on small states, and, for every statement that has hypotheses, concrete
data that meet them. Every expected value is the spec's own or a hand calculation from its rules. -/

namespace Sys2Proof.Tests

open Sys2Proof.Machine

/-! ### Small states and readers -/

/-- A record that starts with these bytes and is zero after them (spec/95_test_vectors.md section 0). -/
def bytes (l : List Byte) : Record := tabulate fun k => l.getD k.val 0

/-- The state `S0(f, t)` of spec/95_test_vectors.md section 0. -/
def uniform (f : ColorIndex) (t : Rgb) : State where
  display := {
    framebuffer := .fill f
    colorTable := tabulate fun _ => t
    bgColor := 0
    borderColor := 0
    transparentColor := 0 }
  input := []
  results := []

/-- The state with these events waiting. -/
def waiting (events : List Event) : State := { uniform 9 ⟨1, 2, 3⟩ with input := events }

/-- The marked framebuffer of spec/95_test_vectors.md section 2.5. -/
def marked : State := { uniform 0 ⟨0, 0, 0⟩ with
  display := { (uniform 0 ⟨0, 0, 0⟩).display with
    framebuffer := .ofCells fun y x =>
      if y = 0 ∧ x = 0 then 7 else if y = 215 ∧ x = 299 then 4 else if y = 100 ∧ x = 150 then 1 else 0 } }

/-- The next state, or the old one where there is none. -/
def nextOf (o : Host.Outcome State Fault Refusal) (s : State) : State :=
  match o with
  | .next t => t
  | .fault _ => s
  | .refused _ => s

/-- The state after one instruction. -/
def after (i : Instr) (s : State) : State := nextOf (exec i s) s

/-- The state after the step that runs this table word. -/
def afterWord (nbits w : Nat) (s : State) : State := nextOf (step (s.withFetchWord nbits w)) s

/-- A cell as a number; 99 outside the grid. -/
def cell (s : State) (y x : Nat) : Nat :=
  match s.display.framebuffer.get? y x with
  | some c => c.toNat
  | none => 99

/-- The cells of these places. -/
def cells (s : State) (places : List (Nat × Nat)) : List Nat := places.map fun p => cell s p.1 p.2

/-- Six cells of one row, from this column on. -/
def six (s : State) (y x : Nat) : List Nat := (List.range 6).map fun j => cell s y (x + j)

/-- The statuses put out so far. -/
def statuses (s : State) : List Status := s.results.map StepResult.status

/-- The three index registers: background, border, transparent. -/
def registers (s : State) : List Nat :=
  [s.display.bgColor.toNat, s.display.borderColor.toNat, s.display.transparentColor.toNat]

/-! ### Well-formedness: an ill-formed term for each check (R52, R53) -/

theorem test_wellFormed_accepts_maxima :
    (RawInstr.tileBlock 15 15 31 63 (List.replicate 12 63)).wellFormed = true ∧
    (RawInstr.scrollCopy 15 3 7 3 15).wellFormed = true ∧
    (RawInstr.loadColorsHigh (List.replicate 8 (15, 15, 15))).wellFormed = true ∧
    (RawInstr.memoryPreset 15).wellFormed = true ∧ RawInstr.empty.wellFormed = true := by decide

theorem test_wellFormed_refuses_wide_colours :
    (RawInstr.memoryPreset 16).wellFormed = false ∧ (RawInstr.borderPreset 16).wellFormed = false ∧
    (RawInstr.defineTransparent 16).wellFormed = false := by decide

theorem test_wellFormed_refuses_bad_tiles :
    (RawInstr.tileBlock 16 0 0 0 (List.replicate 12 0)).wellFormed = false ∧
    (RawInstr.tileBlock 0 16 0 0 (List.replicate 12 0)).wellFormed = false ∧
    (RawInstr.tileBlock 0 0 32 0 (List.replicate 12 0)).wellFormed = false ∧
    (RawInstr.tileBlockXor 0 0 0 64 (List.replicate 12 0)).wellFormed = false ∧
    (RawInstr.tileBlockXor 0 0 0 0 (List.replicate 11 0)).wellFormed = false ∧
    (RawInstr.tileBlockXor 0 0 0 0 (List.replicate 11 0 ++ [64])).wellFormed = false := by decide

theorem test_wellFormed_refuses_bad_entries :
    (RawInstr.loadColorsLow (List.replicate 7 (0, 0, 0))).wellFormed = false ∧
    (RawInstr.loadColorsLow (List.replicate 7 (0, 0, 0) ++ [(16, 0, 0)])).wellFormed = false ∧
    (RawInstr.loadColorsHigh (List.replicate 7 (0, 0, 0) ++ [(0, 16, 0)])).wellFormed = false ∧
    (RawInstr.loadColorsHigh (List.replicate 7 (0, 0, 0) ++ [(0, 0, 16)])).wellFormed = false := by decide

theorem test_wellFormed_refuses_bad_scrolls :
    (RawInstr.scrollPreset 16 0 0 0 0).wellFormed = false ∧ (RawInstr.scrollPreset 0 4 0 0 0).wellFormed = false ∧
    (RawInstr.scrollPreset 0 0 8 0 0).wellFormed = false ∧ (RawInstr.scrollCopy 0 0 0 4 0).wellFormed = false ∧
    (RawInstr.scrollCopy 0 0 0 0 16).wellFormed = false := by decide

/-! ### Decoding (spec/95_test_vectors.md sections 1 and 2.1) -/

/-- V2, V26, and V6 with its noise and parity bytes. -/
theorem test_decode_memoryPreset :
    decodeTableWord 48 0x090100000500 = some (.memoryPreset 5) ∧
    decodeTableWord 48 0x094100000500 = some (.memoryPreset 5) ∧
    decodeTableWord 192 0xC941FFFFF5300000_0000000000000000_00000000AABBCCDD = some (.memoryPreset 5) := by
  decide +kernel

/-- V10: a border preset has no repeat field. -/
theorem test_decode_borderPreset : decodeTableWord 64 0x090200000C0F3F3F = some (.borderPreset 12) := by
  decide +kernel

/-- V13 and V12: field maxima and an out-of-grid placement decode. -/
theorem test_decode_tiles :
    decodeTableWord 64 0x0906000000003F7F = some (.tileBlock 0 0 31 63 (tabulate fun _ => 0)) ∧
    decodeTableWord 160 0x09260000F1E2F2F13F3F3F3F3F3F3F3F3F3F3F3F =
      some (.tileBlockXor 1 2 18 49 (tabulate fun _ => 63)) := by decide +kernel

/-- V20. -/
theorem test_decode_loadColorsLow :
    decodeTableWord 160 0x091E00003F3F2A1500003C000330000FFFFF152A =
      some (.loadColorsLow #v[⟨15, 15, 15⟩, ⟨10, 9, 5⟩, ⟨0, 0, 0⟩, ⟨15, 0, 0⟩, ⟨0, 15, 0⟩, ⟨0, 0, 15⟩, ⟨15, 15, 15⟩,
        ⟨5, 6, 10⟩]) := by decide +kernel

/-- V21. -/
theorem test_decode_loadColorsHigh :
    decodeTableWord 160 0x091F0000040110222113C44140803C0F033F0030 =
      some (.loadColorsHigh #v[⟨1, 0, 1⟩, ⟨4, 2, 2⟩, ⟨8, 5, 3⟩, ⟨1, 0, 1⟩, ⟨0, 0, 0⟩, ⟨15, 0, 15⟩, ⟨0, 15, 15⟩,
        ⟨0, 3, 0⟩]) := by decide +kernel

/-- V17 and V18: bit 3 of the horizontal field belongs to no operand; left and down. -/
theorem test_decode_scrollPreset :
    decodeTableWord 56 0x09140000_0F0800 = some (.scrollPreset 15 0 0 0 0) ∧
    decodeTableWord 56 0x09140000_002010 = some (.scrollPreset 0 2 0 1 0) := by decide +kernel

/-- P4 step 7. -/
theorem test_decode_scrollCopy : decodeTableWord 56 0x09180000_002818 = some (.scrollCopy 0 2 0 1 8) := by
  decide +kernel

/-- P4 step 6. -/
theorem test_decode_defineTransparent : decodeTableWord 40 0x495C0000FE = some (.defineTransparent 14) := by
  decide +kernel

/-- V1, V3, V4, V7, V8, V22, V23, V24, V24b, V25. -/
theorem test_decode_empty_rows :
    decodeTableWord 48 0x000100000500 = some .emptyNotcdg00 ∧ decodeTableWord 48 0x090100000503 = some .emptyRepeat03 ∧
    decodeTableWord 48 0x09010000051F = some .emptyRepeat15 ∧ decodeTableWord 48 0x190100000500 = some .emptyNotcdg25 ∧
    decodeTableWord 48 0x080100000500 = some .emptyNotcdg08 ∧ decodeTableWord 16 0x0900 = some .emptyReserved00 ∧
    decodeTableWord 16 0x093F = some .emptyReserved63 ∧ decodeTableWord 16 0x0903 = some .emptyReserved03 ∧
    decodeTableWord 16 0x0907 = some .emptyReserved07 ∧
    decodeTableWord 48 0x092100000500 = some .emptyReserved33 := by decide +kernel

/-- Every Empty row's match decodes to that row (spec/opcode_table.json). -/
theorem test_decode_every_empty_match :
    ∀ i ∈ emptyRepeatRows ++ emptyReservedRows ++ emptyNotcdgRows,
      decodeTableWord 48 i.row.pattern.toNat = some i ∧ i.typed = .empty := by decide +kernel

/-- The pairs of the colour word table (R49, R84), each single bit of the word among them. -/
theorem test_colour_words :
    rgb (colorWord 0x3F 0x3F) = ⟨15, 15, 15⟩ ∧ rgb (colorWord 0x2A 0x15) = ⟨10, 9, 5⟩ ∧
    rgb (colorWord 0x15 0x2A) = ⟨5, 6, 10⟩ ∧ rgb (colorWord 0xC4 0x41) = ⟨1, 0, 1⟩ ∧
    rgb (colorWord 0x40 0x80) = ⟨0, 0, 0⟩ ∧ rgb (colorWord 0x01 0x00) = ⟨0, 4, 0⟩ ∧
    rgb (colorWord 0x02 0x00) = ⟨0, 8, 0⟩ ∧ rgb (colorWord 0x00 0x10) = ⟨0, 1, 0⟩ ∧
    rgb (colorWord 0x00 0x20) = ⟨0, 2, 0⟩ ∧ rgb (colorWord 0x04 0x00) = ⟨1, 0, 0⟩ ∧
    rgb (colorWord 0x20 0x00) = ⟨8, 0, 0⟩ ∧ rgb (colorWord 0x00 0x01) = ⟨0, 0, 1⟩ ∧
    rgb (colorWord 0x00 0x08) = ⟨0, 0, 8⟩ := by decide +kernel

/-- The canonical encodings of section 2.1. -/
theorem test_encode_presets_and_scrolls :
    encode .emptyNotcdg00 = bytes [] ∧ encode (.memoryPreset 5) = bytes [9, 1, 0, 0, 5] ∧
    encode (.borderPreset 12) = bytes [9, 2, 0, 0, 12] ∧
    encode (.scrollPreset 3 1 5 2 11) = bytes [9, 0x14, 0, 0, 3, 0x15, 0x2B] ∧
    encode (.scrollCopy 3 3 7 3 15) = bytes [9, 0x18, 0, 0, 3, 0x37, 0x3F] ∧
    encode (.defineTransparent 10) = bytes [9, 0x1C, 0, 0, 0x0A] := by decide +kernel

/-- The canonical encodings of section 2.1. -/
theorem test_encode_tiles_and_colours :
    encode (.tileBlock 1 2 17 49 #v[63, 0, 33, 18, 63, 0, 0, 1, 42, 21, 1, 32]) =
      bytes [9, 6, 0, 0, 1, 2, 0x11, 0x31, 0x3F, 0, 0x21, 0x12, 0x3F, 0, 0, 1, 0x2A, 0x15, 1, 0x20] ∧
    encode (.tileBlockXor 3 7 1 2 #v[63, 63, 63, 63, 63, 63, 0, 0, 0, 0, 0, 0]) =
      bytes [9, 0x26, 0, 0, 3, 7, 1, 2, 0x3F, 0x3F, 0x3F, 0x3F, 0x3F, 0x3F] ∧
    encode (.loadColorsLow #v[⟨15, 15, 15⟩, ⟨10, 9, 5⟩, ⟨0, 0, 0⟩, ⟨15, 0, 0⟩, ⟨0, 15, 0⟩, ⟨0, 0, 15⟩, ⟨15, 15, 15⟩,
        ⟨5, 6, 10⟩]) =
      bytes [9, 0x1E, 0, 0, 0x3F, 0x3F, 0x2A, 0x15, 0, 0, 0x3C, 0, 3, 0x30, 0, 0x0F, 0x3F, 0x3F, 0x15, 0x2A] ∧
    encode (.loadColorsHigh #v[⟨8, 0, 8⟩, ⟨0, 4, 2⟩, ⟨15, 12, 0⟩, ⟨0, 3, 15⟩, ⟨4, 1, 0⟩, ⟨3, 0, 12⟩, ⟨12, 15, 3⟩,
        ⟨15, 15, 15⟩]) =
      bytes [9, 0x1F, 0, 0, 0x20, 8, 1, 2, 0x3F, 0, 0, 0x3F, 0x10, 0x10, 0x0C, 0x0C, 0x33, 0x33, 0x3F, 0x3F] := by
  decide +kernel

/-! ### Single steps -/

/-- PR1: the corners become 5; only `bg_color` moves. -/
theorem test_step_memoryPreset :
    let t := afterWord 48 0x090100000500 (uniform 1 ⟨1, 2, 3⟩)
    cells t [(0, 0), (215, 299), (100, 150)] = [5, 5, 5] ∧ registers t = [5, 0, 0] ∧ statuses t = [.ok] := by
  decide +kernel

/-- Section 2.2, ring membership: the places named there as written. -/
theorem test_step_borderPreset_written :
    cells (after (.borderPreset 12) (uniform 5 ⟨0, 0, 0⟩))
      [(0, 0), (5, 3), (5, 150), (6, 0), (6, 2), (100, 0), (100, 2), (100, 297), (100, 299), (209, 297), (210, 3),
       (210, 150), (215, 299)] = List.replicate 13 12 := by decide +kernel

/-- Section 2.2, ring membership: the places named there as not written; only `border_color` moves. -/
theorem test_step_borderPreset_interior :
    let t := after (.borderPreset 12) (uniform 5 ⟨0, 0, 0⟩)
    cells t [(6, 3), (6, 296), (100, 3), (100, 296), (209, 3), (209, 296)] = List.replicate 6 5 ∧
    registers t = [0, 12, 0] := by decide +kernel

/-- The tile of T1. -/
def tileT1 : Instr := .tileBlock 1 2 1 2 #v[63, 33, 33, 33, 33, 63, 0, 12, 12, 0, 42, 21]

/-- The tile of T2. -/
def tileT2 : Instr := .tileBlockXor 3 7 1 2 #v[63, 63, 63, 63, 63, 63, 0, 0, 0, 0, 0, 0]

/-- T1: rows 12, 13, 18, 19, 22 and 23, and the cells just outside. -/
theorem test_step_tileBlock :
    let t := after tileT1 (uniform 0 ⟨0, 0, 0⟩)
    six t 12 12 = [2, 2, 2, 2, 2, 2] ∧ six t 13 12 = [2, 1, 1, 1, 1, 2] ∧ six t 18 12 = [1, 1, 1, 1, 1, 1] ∧
    six t 19 12 = [1, 1, 2, 2, 1, 1] ∧ six t 22 12 = [2, 1, 2, 1, 2, 1] ∧ six t 23 12 = [1, 2, 1, 2, 1, 2] ∧
    cells t [(11, 12), (24, 12), (12, 11), (12, 18)] = [0, 0, 0, 0] := by decide +kernel

/-- T2 on the result of T1: rows 12, 13, 18, 19 and 22. -/
theorem test_step_tileBlockXor :
    let t := after tileT2 (after tileT1 (uniform 0 ⟨0, 0, 0⟩))
    six t 12 12 = [5, 5, 5, 5, 5, 5] ∧ six t 13 12 = [5, 6, 6, 6, 6, 5] ∧ six t 18 12 = [2, 2, 2, 2, 2, 2] ∧
    six t 19 12 = [2, 2, 1, 1, 2, 2] ∧ six t 22 12 = [1, 2, 1, 2, 1, 2] := by decide +kernel

/-- T3: the bounds table, for either tile instruction. -/
theorem test_step_tile_bounds :
    let status := fun (row : BitVec 5) (col : BitVec 6) =>
      statuses (after (.tileBlockXor 1 2 row col (tabulate fun _ => 63))
        (after (.tileBlock 1 2 row col (tabulate fun _ => 63)) (uniform 0 ⟨0, 0, 0⟩)))
    [status 0 0, status 17 49] = List.replicate 2 [.ok, .ok] ∧
    [status 18 0, status 17 50, status 18 50, status 31 63, status 0 63, status 31 0] =
      List.replicate 6 [.outOfRange, .outOfRange] := by decide +kernel

/-- S6 and section 2.7: row 17 column 49 writes the last cell; row 18 draws nothing, clipped or wrapped. -/
theorem test_step_tile_last_place :
    cells (afterWord 64 0x0906000003041131 (uniform 9 ⟨0, 0, 0⟩)) [(204, 294), (215, 299), (203, 294), (204, 293)] =
      [3, 3, 9, 9] ∧
    cells (afterWord 64 0x0906000003041231 (uniform 9 ⟨0, 0, 0⟩)) [(0, 294), (204, 294), (215, 299)] = [9, 9, 9] := by
  decide +kernel

/-- LC1, the low load: its bank is as listed in V20, the high bank stays. -/
theorem test_step_loadColorsLow :
    let t := afterWord 160 0x091E00003F3F2A1500003C000330000FFFFF152A (uniform 4 ⟨9, 9, 9⟩)
    t.display.colorTable.toList = [⟨15, 15, 15⟩, ⟨10, 9, 5⟩, ⟨0, 0, 0⟩, ⟨15, 0, 0⟩, ⟨0, 15, 0⟩, ⟨0, 0, 15⟩, ⟨15, 15, 15⟩,
      ⟨5, 6, 10⟩] ++ List.replicate 8 ⟨9, 9, 9⟩ ∧ cell t 100 100 = 4 := by decide +kernel

/-- LC1, the high load: its bank is as listed in V21, the low bank stays. -/
theorem test_step_loadColorsHigh :
    let t := afterWord 160 0x091F0000040110222113C44140803C0F033F0030 (uniform 4 ⟨9, 9, 9⟩)
    t.display.colorTable.toList = List.replicate 8 ⟨9, 9, 9⟩ ++ [⟨1, 0, 1⟩, ⟨4, 2, 2⟩, ⟨8, 5, 3⟩, ⟨1, 0, 1⟩, ⟨0, 0, 0⟩,
      ⟨15, 0, 15⟩, ⟨0, 15, 15⟩, ⟨0, 3, 0⟩] := by decide +kernel

/-- SQ1 (right, down) and SQ2 (left, up) on the marked framebuffer. -/
theorem test_step_scrollPreset_diagonals :
    cells (after (.scrollPreset 2 1 0 1 0) marked) [(12, 6), (112, 156), (11, 150), (100, 5), (11, 5)] =
      [7, 1, 2, 2, 2] ∧
    cells (after (.scrollPreset 2 2 0 2 0) marked) [(203, 293), (88, 144), (204, 100), (100, 294), (0, 0)] =
      [4, 1, 2, 2, 0] := by decide +kernel

/-- SQ9 and section 2.7: code 3 and the offsets move nothing; S13's record moves 6 right and 12 up. -/
theorem test_step_scrollPreset_codes :
    cells (after (.scrollPreset 2 3 7 3 15) marked) [(0, 0), (215, 299), (100, 150), (0, 1)] = [7, 4, 1, 0] ∧
    cells (afterWord 56 0x0914000003152B marked) [(88, 156), (0, 6), (203, 299), (0, 0), (204, 6)] =
      [1, 0, 0, 3, 3] := by decide +kernel

/-- SC1 and SC2 on the marked framebuffer. -/
theorem test_step_scrollCopy_diagonals :
    cells (after (.scrollCopy 2 1 0 1 0) marked) [(12, 6), (11, 5), (112, 156), (0, 0)] = [7, 4, 1, 0] ∧
    cells (after (.scrollCopy 2 2 0 2 0) marked) [(204, 294), (203, 293), (88, 144), (0, 0)] = [7, 4, 1, 0] := by
  decide +kernel

/-- SC9 and SC10: code 3 on both axes moves nothing, code 3 on one axis leaves the other axis's move. -/
theorem test_step_scrollCopy_codes :
    cells (after (.scrollCopy 2 3 7 3 15) marked) [(0, 0), (215, 299), (100, 150)] = [7, 4, 1] ∧
    cells (after (.scrollCopy 2 3 0 1 0) marked) [(12, 0), (11, 299), (112, 150)] = [7, 4, 1] := by decide +kernel

/-- DT1. -/
theorem test_step_defineTransparent :
    registers (after (.defineTransparent 14) (uniform 4 ⟨0, 0, 0⟩)) = [0, 0, 14] := by decide +kernel

/-- Section 2.7: a suppressed memory preset must not fill the framebuffer; EM1. -/
theorem test_step_empty :
    let t := afterWord 48 0x090100000503 (uniform 4 ⟨0, 0, 0⟩)
    cells t [(0, 0), (215, 299)] = [4, 4] ∧ registers t = [0, 0, 0] ∧ t.results = [⟨.empty, .ok⟩] := by decide +kernel

/-! ### Data that meet the hypotheses of the statements -/

/-- V5 with repeat-field noise and V6 agree up to noise and parity, and differ. -/
theorem witness_NoiseBitsAndParityNeverMatter :
    let a := bytes [0x09, 0x01, 0, 0, 0x35, 0x30]
    let b := bytes [0xC9, 0x41, 0xFF, 0xFF, 0xF5, 0x30, 0, 0, 0, 0, 0, 0, 0, 0, 0, 0, 0, 0, 0, 0, 0xAA, 0xBB, 0xCC, 0xDD]
    (∀ k : Fin 24, k.val = 0 ∨ k.val = 1 ∨ (4 ≤ k.val ∧ k.val ≤ 19) → a[k] &&& 0x3F = b[k] &&& 0x3F) ∧ a ≠ b ∧
      decode a = .memoryPreset 5 := by decide +kernel

theorem witness_CommandGateComesFirst :
    (bytes [0x08, 1])[0] &&& 0x3F ≠ 0x09 ∧ (bytes [0x0A, 1])[0] &&& 0x3F ≠ 0x09 ∧
    (bytes [0x19, 1])[0] &&& 0x3F ≠ 0x09 := by decide +kernel

/-- Codes 0, 3, 37, 39 and 63, at the ends and beside defined codes. -/
theorem witness_ReservedCodesAreEmpty :
    ∀ code ∈ [0, 3, 37, 39, 63], (bytes [9, code])[0] &&& 0x3F = 0x09 ∧
      ((bytes [9, code])[1] &&& 0x3F).toNat ∉ [1, 2, 6, 20, 24, 28, 30, 31, 38] := by decide +kernel

/-- Repeat 0 (with noise in bits 4 and 5), and repeat 1 and 15. -/
theorem witness_MemoryPresetDecodesByItsRepeat :
    (∀ r ∈ [0x30, 1, 15], (bytes [9, 1, 0, 0, 5, r])[0] &&& 0x3F = 0x09 ∧ (bytes [9, 1, 0, 0, 5, r])[1] &&& 0x3F = 1) ∧
    (bytes [9, 1, 0, 0, 5, 0x30])[5] &&& 0x0F = 0 ∧ (bytes [9, 1, 0, 0, 5, 1])[5] &&& 0x0F ≠ 0 ∧
    (bytes [9, 1, 0, 0, 5, 15])[5] &&& 0x0F ≠ 0 := by decide +kernel

/-- V16 and its canonical record: one code, the listed bits agree, the decoding is the same and no Empty. -/
theorem witness_ExactlyTheListedBitsMatter :
    let a := bytes [9, 0x18, 0, 0, 0x13, 0x3F, 0x3F]
    let b := bytes [9, 0x18, 0, 0, 0x03, 0x37, 0x3F]
    commandField a = 9 ∧ commandField b = 9 ∧ codeField a = codeField b ∧
    (∀ k : Fin 16, pay a k &&& relevantBits (codeField a) k = pay b k &&& relevantBits (codeField a) k) ∧
    (decode a).typed ≠ .empty ∧ decode a = decode b ∧ a ≠ b := by decide +kernel

/-- V13, whose row and column lie outside the grid, comes out and is well-formed; so are the field maxima, and a row or a
scroll command one above its maximum is not. -/
theorem witness_DecodedFieldsHaveExactlyTheirWidths :
    (decode (bytes [9, 6, 0, 0, 0, 0, 0x3F, 0x7F])).typed.raw = .tileBlock 0 0 31 63 (List.replicate 12 0) ∧
    (RawInstr.tileBlock 0 0 31 63 (List.replicate 12 0)).wellFormed = true ∧
    (RawInstr.tileBlock 0 0 32 63 (List.replicate 12 0)).wellFormed = false ∧
    (RawInstr.scrollPreset 15 3 7 3 15).wellFormed = true ∧ (RawInstr.scrollPreset 15 4 7 3 15).wellFormed = false := by
  decide +kernel

theorem witness_OnlyTwentyFourBytesAreARecord :
    (List.replicate 23 (0 : Byte)).length ≠ 24 ∧ (List.replicate 25 (0 : Byte)).length ≠ 24 ∧
    (List.replicate 24 (0 : Byte)).length = 24 := by decide

theorem witness_ResetInputRestoresTheDisplay :
    (waiting [.reset, .record (bytes [9, 1])]).input = .reset :: [.record (bytes [9, 1])] := rfl

theorem witness_BlockHoldsItsStateBetweenRecords : State.reset.input = [] ∧ (waiting []).input = [] := ⟨rfl, rfl⟩

theorem witness_StepRunsTheDecodedInstruction :
    (waiting [.record (bytes [9, 1, 0, 0, 5]), .reset]).input = .record (bytes [9, 1, 0, 0, 5]) :: [.reset] := rfl

/-- The shortest and the longest word. -/
theorem witness_SuppliedWordIsExecutedNext :
    decodeTableWord 0 0 = some .emptyNotcdg00 ∧ decodeTableWord 192 (0x090200000C * 2 ^ 152) = some (.borderPreset 12) := by
  decide +kernel

theorem witness_RunIsTheFoldOverTheRecords :
    (waiting [.record (bytes [9, 1]), .record (bytes [9, 2]), .reset]).input =
      [bytes [9, 1], bytes [9, 2]].map Event.record ++ [.reset] ∧
    (waiting [.reset]).input = ([] : List Record).map Event.record ++ [.reset] := ⟨rfl, rfl⟩

/-- A step on a record, a step on the reset input, and a step with nothing waiting. -/
theorem witness_OneTypedInstructionPerRecord :
    ((∃ t, step (waiting [.record (bytes [9, 3])]) = .next t) ∧
      (waiting [.record (bytes [9, 3])]).input = .record (bytes [9, 3]) :: []) ∧
    ((∃ t, step (waiting [.reset]) = .next t) ∧ ∀ rec rest, (waiting [.reset]).input ≠ .record rec :: rest) ∧
    ((∃ t, step (waiting []) = .next t) ∧ ∀ rec rest, (waiting []).input ≠ .record rec :: rest) :=
  ⟨⟨⟨_, rfl⟩, rfl⟩, ⟨⟨_, rfl⟩, fun _ _ h => by cases h⟩, ⟨_, rfl⟩, fun _ _ h => by cases h⟩

theorem witness_EmptyRows :
    Instr.emptyRepeat01 ∈ emptyRepeatRows ∧ Instr.emptyRepeat15 ∈ emptyRepeatRows ∧
    Instr.emptyReserved00 ∈ emptyReservedRows ∧ Instr.emptyReserved63 ∈ emptyReservedRows ∧
    Instr.emptyNotcdg00 ∈ emptyNotcdgRows ∧ Instr.emptyNotcdg63 ∈ emptyNotcdgRows := by decide +kernel

/-- Every Empty row stands in one of the three lists, and they have the table's sizes 15, 55 and 63. -/
theorem witness_EmptyRows_complete :
    (∀ i : Instr, i.typed = .empty → i ∈ emptyRepeatRows ++ emptyReservedRows ++ emptyNotcdgRows) ∧
    [emptyRepeatRows.length, emptyReservedRows.length, emptyNotcdgRows.length] = [15, 55, 63] := by
  constructor
  · intro i
    cases i <;> first | (intro h; cases h; done) | decide +kernel
  · rfl

/-- The least rejected placements, the greatest and the least accepted one; of the last tile the corner cells and cells
beside it. -/
theorem witness_TileBlockOverwritesItsTile :
    ((18 : BitVec 5).toNat * 12 + 11 ≥ 216 ∨ (0 : BitVec 6).toNat * 6 + 5 ≥ 300) ∧
    ((0 : BitVec 5).toNat * 12 + 11 ≥ 216 ∨ (50 : BitVec 6).toNat * 6 + 5 ≥ 300) ∧
    ((17 : BitVec 5).toNat * 12 + 11 < 216 ∧ (49 : BitVec 6).toNat * 6 + 5 < 300) ∧
    ((0 : BitVec 5).toNat * 12 + 11 < 216 ∧ (0 : BitVec 6).toNat * 6 + 5 < 300) ∧
    (215 = (17 : BitVec 5).toNat * 12 + (11 : Fin 12).val ∧ 299 = (49 : BitVec 6).toNat * 6 + (5 : Fin 6).val) ∧
    (204 = (17 : BitVec 5).toNat * 12 + (0 : Fin 12).val ∧ 294 = (49 : BitVec 6).toNat * 6 + (0 : Fin 6).val) ∧
    (∀ (i : Fin 12) (j : Fin 6),
      ¬((203 : Fin 216).val = (17 : BitVec 5).toNat * 12 + i.val ∧ (299 : Fin 300).val = (49 : BitVec 6).toNat * 6 + j.val)) ∧
    (∀ (i : Fin 12) (j : Fin 6),
      ¬((215 : Fin 216).val = (17 : BitVec 5).toNat * 12 + i.val ∧
        (293 : Fin 300).val = (49 : BitVec 6).toNat * 6 + j.val)) := by decide +kernel

/-- A rejected placement and the greatest accepted one; an accepted XOR tile runs there. -/
theorem witness_TileBlockXorXorsItsTile :
    ((18 : BitVec 5).toNat * 12 + 11 ≥ 216 ∨ (49 : BitVec 6).toNat * 6 + 5 ≥ 300) ∧
    ((17 : BitVec 5).toNat * 12 + 11 < 216 ∧ (49 : BitVec 6).toNat * 6 + 5 < 300) ∧
    statuses (after (.tileBlockXor 1 2 17 49 (tabulate fun _ => 63)) (uniform 9 ⟨0, 0, 0⟩)) = [.ok] := by decide +kernel

/-- Both sides of the bounds test, at its boundary. -/
theorem witness_TileBoundsTestDecidesTheStatus :
    ((18 : BitVec 5).toNat * 12 + 11 ≥ 216 ∨ (0 : BitVec 6).toNat * 6 + 5 ≥ 300) ∧
    ((17 : BitVec 5).toNat * 12 + 11 ≥ 216 ∨ (50 : BitVec 6).toNat * 6 + 5 ≥ 300) ∧
    ¬((17 : BitVec 5).toNat * 12 + 11 ≥ 216 ∨ (49 : BitVec 6).toNat * 6 + 5 ≥ 300) := by decide

/-- The boundary entries of the two banks. -/
theorem witness_LoadColors : 8 ≤ (8 : Fin 16).val ∧ 8 ≤ (15 : Fin 16).val ∧ (7 : Fin 16).val < 8 ∧ (0 : Fin 16).val < 8 := by
  decide

/-- Right and down: the cell (12, 6) has the source (0, 0); the cells (11, 6) and (12, 5) have none. -/
theorem witness_ScrollPresetShiftsAndFills :
    (((0 : Fin 216).val : Int) = (12 : Fin 216).val - 12 ∧ ((0 : Fin 300).val : Int) = (6 : Fin 300).val - 6) ∧
    ¬(0 ≤ ((6 : Fin 300).val : Int) - 6 ∧ ((6 : Fin 300).val : Int) - 6 ≤ 299 ∧ 0 ≤ ((11 : Fin 216).val : Int) - 12 ∧
      ((11 : Fin 216).val : Int) - 12 ≤ 215) ∧
    ¬(0 ≤ ((5 : Fin 300).val : Int) - 6 ∧ ((5 : Fin 300).val : Int) - 6 ≤ 299 ∧ 0 ≤ ((12 : Fin 216).val : Int) - 12 ∧
      ((12 : Fin 216).val : Int) - 12 ≤ 215) := by decide

/-- SC1: the cell (11, 5) has the source (215, 299). -/
theorem witness_ScrollCopyRotates :
    ((215 : Fin 216).val : Int) = (((11 : Fin 216).val : Int) - 12) % 216 ∧
    ((299 : Fin 300).val : Int) = (((5 : Fin 300).val : Int) - 6) % 300 := by decide

/-- The records of section 2.7 with both commands 3, for either scroll. -/
theorem witness_ReservedScrollCommandMeansNone :
    (bytes [9, 20, 0, 0, 3, 0x30, 0x30])[0] &&& 0x3F = 9 ∧ (bytes [9, 20, 0, 0, 3, 0x30, 0x30])[1] &&& 0x3F = 20 ∧
    (bytes [9, 24, 0, 0, 3, 0x30, 0x30])[0] &&& 0x3F = 9 ∧
    (bytes [9, 24, 0, 0, 3, 0x30, 0x30])[1] &&& 0x3F = 24 := by decide +kernel

/-- After 49 right scrolls column 293 is filled and column 294 shows column 0; the same for left. -/
theorem witness_RepeatedHorizontalScrollFills :
    (293 : Fin 300).val < 6 * 49 ∧ (294 : Fin 300).val = (0 : Fin 300).val + 6 * 49 ∧
    300 ≤ (6 : Fin 300).val + 6 * 49 ∧ (299 : Fin 300).val = (5 : Fin 300).val + 6 * 49 := by decide

/-- After 17 down scrolls row 203 is filled and row 204 shows row 0; the same for up. -/
theorem witness_RepeatedVerticalScrollFills :
    (203 : Fin 216).val < 12 * 17 ∧ (204 : Fin 216).val = (0 : Fin 216).val + 12 * 17 ∧
    216 ≤ (12 : Fin 216).val + 12 * 17 ∧ (215 : Fin 216).val = (11 : Fin 216).val + 12 * 17 := by decide

/-- The greatest and the least accepted placement. -/
theorem witness_XorTiles :
    ((17 : BitVec 5).toNat ≤ 17 ∧ (49 : BitVec 6).toNat ≤ 49) ∧ (0 : BitVec 5).toNat ≤ 17 ∧ (0 : BitVec 6).toNat ≤ 49 := by
  decide

/-- Each of the three registers is changed by its writer. -/
theorem witness_EachIndexRegisterHasOneWriter :
    (∃ t, exec (.memoryPreset 5) (uniform 9 ⟨0, 0, 0⟩) = .next t ∧
      t.display.bgColor ≠ (uniform 9 ⟨0, 0, 0⟩).display.bgColor) ∧
    (∃ t, exec (.borderPreset 5) (uniform 9 ⟨0, 0, 0⟩) = .next t ∧
      t.display.borderColor ≠ (uniform 9 ⟨0, 0, 0⟩).display.borderColor) ∧
    (∃ t, exec (.defineTransparent 5) (uniform 9 ⟨0, 0, 0⟩) = .next t ∧
      t.display.transparentColor ≠ (uniform 9 ⟨0, 0, 0⟩).display.transparentColor) :=
  ⟨⟨_, rfl, by decide⟩, ⟨_, rfl, by decide⟩, ⟨_, rfl, by decide⟩⟩

/-- Entries 7 and 8, the ends of the banks, are changed by the loads of their banks. -/
theorem witness_OnlyTheBanksLoadChangesAnEntry :
    (∃ t, exec (.loadColorsLow (tabulate fun _ => ⟨1, 1, 1⟩)) (uniform 9 ⟨0, 0, 0⟩) = .next t ∧
      t.display.colorTable[7] ≠ (uniform 9 ⟨0, 0, 0⟩).display.colorTable[7]) ∧
    (∃ t, exec (.loadColorsHigh (tabulate fun _ => ⟨1, 1, 1⟩)) (uniform 9 ⟨0, 0, 0⟩) = .next t ∧
      t.display.colorTable[8] ≠ (uniform 9 ⟨0, 0, 0⟩).display.colorTable[8]) :=
  ⟨⟨_, rfl, by decide +kernel⟩, ⟨_, rfl, by decide +kernel⟩⟩

/-- A border preset and the interior's corner cell; a tile and the cell to its right; a scroll that moves nothing. -/
theorem witness_CellsOutsideTheFootprintNeverChange :
    ((∃ t, exec (.borderPreset 5) (uniform 9 ⟨0, 0, 0⟩) = .next t) ∧
      ¬(Instr.borderPreset 5).typed.WritesCell 6 3) ∧
    ((∃ t, exec (.tileBlock 1 2 17 48 (tabulate fun _ => 0)) (uniform 9 ⟨0, 0, 0⟩) = .next t) ∧
      ¬(Instr.tileBlock 1 2 17 48 (tabulate fun _ => 0)).typed.WritesCell 215 294) ∧
    ((∃ t, exec (.scrollPreset 1 3 0 3 0) (uniform 9 ⟨0, 0, 0⟩) = .next t) ∧
      ¬(Instr.scrollPreset 1 3 0 3 0).typed.WritesCell 0 0) :=
  ⟨⟨⟨_, rfl⟩, by simp only [Instr.typed, TypedInstr.WritesCell]; decide⟩,
   ⟨⟨_, rfl⟩, by simp only [Instr.typed, TypedInstr.WritesCell]; decide⟩,
   ⟨_, rfl⟩, by simp only [Instr.typed, TypedInstr.WritesCell]; decide⟩

/-- A tile at row 18 raises `OutOfRange`; one at row 17 and column 49 does not. -/
theorem witness_OutOfRangeIsRaisedByTilesOnly :
    (∃ t, exec (.tileBlock 1 2 18 2 (tabulate fun _ => 0)) (uniform 9 ⟨0, 0, 0⟩) = .next t ∧
      t.results = (uniform 9 ⟨0, 0, 0⟩).results ++
        [⟨(Instr.tileBlock 1 2 18 2 (tabulate fun _ => 0)).typed, .outOfRange⟩]) ∧
    (∃ t, exec (.tileBlock 1 2 17 49 (tabulate fun _ => 0)) (uniform 9 ⟨0, 0, 0⟩) = .next t ∧
      statuses t = [.ok]) :=
  ⟨⟨_, rfl, by decide +kernel⟩, ⟨_, rfl, by decide +kernel⟩⟩

/-- A state that meets the status invariant, with both statuses among its results, and a step from it. -/
theorem witness_EveryStepKeepsTheStatusInvariant :
    let s : State := { waiting [.record (bytes [9, 6, 0, 0, 1, 2, 18, 0])] with
      results := [⟨.memoryPreset 5, .ok⟩, ⟨.tileBlock 1 2 18 0 (tabulate fun _ => 0), .outOfRange⟩] }
    s.StatusesTell ∧ ∃ t, step s = .next t :=
  ⟨by simp [State.StatusesTell, TypedInstr.InGrid], _, rfl⟩

/-- A safe state, a record in the grid's last place at its input, and a step from it. -/
theorem witness_InGridRecordsKeepARunSafe :
    let s : State := { waiting [.record (bytes [9, 6, 0, 0, 1, 2, 17, 49])] with results := [⟨.empty, .ok⟩] }
    s.AllOk ∧ (∀ rec rest, s.input = .record rec :: rest → (decode rec).typed.InGrid) ∧ ∃ t, step s = .next t := by
  refine ⟨by simp [State.AllOk], ?_, _, rfl⟩
  intro rec rest h
  have hr : rec = bytes [9, 6, 0, 0, 1, 2, 17, 49] := by
    injection h with h _
    injection h with h
    exact h.symm
  have hd : (decode rec).typed = .tileBlock 1 2 17 49 (tabulate fun _ => 0) := by rw [hr]; decide +kernel
  rw [hd]
  exact ⟨by decide, by decide⟩

/-- Two states with one Display State and different inputs and results. -/
theorem witness_OnlyTheDisplayDecidesTheDisplay :
    let s := waiting []
    let s' := { waiting [.reset] with results := [⟨.empty, .ok⟩] }
    s.display = s'.display ∧ s.input ≠ s'.input ∧ (∃ t, exec (.memoryPreset 5) s = .next t) ∧
      ∃ t, exec (.memoryPreset 5) s' = .next t :=
  ⟨rfl, by decide +kernel, ⟨_, rfl⟩, _, rfl⟩

/-- XR1. -/
theorem witness_OutOfRangeIsNotSticky : ¬(Instr.tileBlock 1 2 18 2 (tabulate fun _ => 0)).typed.InGrid := by
  simp [Instr.typed, TypedInstr.InGrid]

/-- One instruction of each kind the footprint table calls idempotent, a rejected XOR tile and a scroll of code 3 too. -/
theorem witness_IdempotentInstructions :
    (Instr.memoryPreset 5).typed.Idempotent ∧ (Instr.tileBlock 1 2 17 49 (tabulate fun _ => 0)).typed.Idempotent ∧
    (Instr.tileBlockXor 1 2 18 0 (tabulate fun _ => 0)).typed.Idempotent ∧
    (Instr.tileBlockXor 1 2 0 50 (tabulate fun _ => 0)).typed.Idempotent ∧
    (Instr.scrollCopy 1 3 0 0 0).typed.Idempotent ∧ Instr.emptyRepeat01.typed.Idempotent := by
  simp [Instr.typed, TypedInstr.Idempotent]

/-- Instructions that load no bank. -/
theorem witness_BankLoadsCommute :
    ¬(Instr.memoryPreset 5).typed.LoadsColors ∧ ¬(Instr.tileBlock 1 2 18 0 (tabulate fun _ => 0)).typed.LoadsColors := by
  simp [Instr.typed, TypedInstr.LoadsColors]

/-- Two states that agree in the two registers and differ in the picture and the table. -/
theorem witness_PresetsMakeThePictureKnown :
    (uniform 1 ⟨0, 0, 0⟩).display.borderColor = (uniform 2 ⟨9, 9, 9⟩).display.borderColor ∧
    (uniform 1 ⟨0, 0, 0⟩).display.transparentColor = (uniform 2 ⟨9, 9, 9⟩).display.transparentColor ∧
    cell (uniform 1 ⟨0, 0, 0⟩) 0 0 ≠ cell (uniform 2 ⟨9, 9, 9⟩) 0 0 := by decide +kernel

end Sys2Proof.Tests
end

section
/-! The step on a record (spec/00_scope.md R2): the decoded instruction is well-formed (R53), `exec` is the dispatcher
`apply` with its outputs put out, and a step that finds a record is `exec` of its decoding. -/

namespace Sys2Proof.Proofs

open Sys2Proof.Machine Sys2Proof.Laws

/-- R53: the field types of the ten variants carry the widths of R52. -/
theorem typedInstr_raw_wellFormed (t : TypedInstr) : t.raw.wellFormed = true := by
  cases t with
  | empty => rfl
  | memoryPreset color => exact fits_toNat color
  | borderPreset color => exact fits_toNat color
  | defineTransparent color => exact fits_toNat color
  | tileBlock color0 color1 row column bits => exact tileFits_toNat color0 color1 row column bits
  | tileBlockXor color0 color1 row column bits => exact tileFits_toNat color0 color1 row column bits
  | loadColorsLow entries => exact entriesFit_raw entries
  | loadColorsHigh entries => exact entriesFit_raw entries
  | scrollPreset color hCmd hOff vCmd vOff => exact scrollFits_toNat color hCmd hOff vCmd vOff
  | scrollCopy color hCmd hOff vCmd vOff => exact scrollFits_toNat color hCmd hOff vCmd vOff

theorem instr_wellFormed (i : Instr) : i.wellFormed = true := typedInstr_raw_wellFormed i.typed

/-- R70: every arm of `exec` puts out its row's typed instruction and what `apply` answers for it. -/
theorem exec_eq_next_emit_apply (i : Instr) (s : State) :
    exec i s = .next (s.emit i.typed (apply i.typed s.display)) := by
  cases i <;> rfl

theorem step_of_record {s : State} {rec : Record} {rest : List Event} (h : s.input = .record rec :: rest) :
    step s = exec (decode rec) (s.takeRecord rest) := by
  simp [step, h]

/-- Settles O19: the two forms of the step are `step_of_record` and, after it, `exec_eq_next_emit_apply`. -/
theorem stepRunsTheDecodedInstruction : Obligations.StepRunsTheDecodedInstruction := by
  intro s rec rest h
  refine ⟨instr_wellFormed (decode rec), step_of_record h, ?_⟩
  calc step s
      = exec (decode rec) (s.takeRecord rest) := step_of_record h
    _ = .next ((s.takeRecord rest).emit (decode rec).typed (apply (decode rec).typed s.display)) :=
        exec_eq_next_emit_apply (decode rec) (s.takeRecord rest)

end Sys2Proof.Proofs
end

section
/-! The state after reset (spec/10_state.md R22) and the invariant of the statuses (R19): what a step can do, when
`apply` answers `OutOfRange`, and that a result put out which tells the truth about its tile keeps the invariant. -/

namespace Sys2Proof.Proofs

open Sys2Proof.Machine Sys2Proof.Laws

/-- Settles O15: the reset value of the Display State gives the three registers (R22). -/
theorem indexRegistersAreZeroAfterReset : Obligations.IndexRegistersAreZeroAfterReset :=
  ⟨rfl, rfl, rfl⟩

/-- What a step can do: hold with nothing waiting (R115), take the reset input (R116), or put out the decoded
instruction of the next record and what `apply` answers for it (R2). -/
theorem step_cases {s t : State} (h : step s = .next t) :
    (s.input = [] ∧ t = s) ∨
    (∃ rest, s.input = .reset :: rest ∧ t = s.takeReset rest) ∨
    ∃ rec rest, s.input = .record rec :: rest ∧
      t = (s.takeRecord rest).emit (decode rec).typed (apply (decode rec).typed s.display) := by
  match hin : s.input with
  | [] =>
    simp only [step, hin, Host.Outcome.next.injEq] at h
    exact .inl ⟨rfl, h.symm⟩
  | .reset :: rest =>
    simp only [step, hin, Host.Outcome.next.injEq] at h
    exact .inr (.inl ⟨rest, rfl, h.symm⟩)
  | .record rec :: rest =>
    rw [step_of_record hin, exec_eq_next_emit_apply, Host.Outcome.next.injEq] at h
    exact .inr (.inr ⟨rec, rest, rfl, h.symm⟩)

/-- R79: the bounds test alone decides a placement's status. -/
theorem placeTile_status_eq_outOfRange_iff (row : BitVec 5) (column : BitVec 6)
    (new : Fin 12 → Fin 6 → ColorIndex → ColorIndex) (d : Display) :
    (placeTile row column new d).1 = .outOfRange ↔ ¬(row.toNat ≤ 17 ∧ column.toNat ≤ 49) := by
  have htest_iff : ¬(row.toNat ≤ 17 ∧ column.toNat ≤ 49) ↔ tileOutOfRange row column = true := by
    rw [tileOutOfRange_iff]
    omega
  rw [htest_iff]
  cases htest : tileOutOfRange row column with
  | true => simp [placeTile_rejected htest]
  | false => simp [placeTile_accepted htest]

/-- R102: only the two tile instructions can answer `OutOfRange`, and they do so exactly outside the grid. -/
theorem apply_status_eq_outOfRange_iff (t : TypedInstr) (d : Display) :
    (apply t d).1 = .outOfRange ↔ ¬t.InGrid := by
  cases t with
  | tileBlock color0 color1 row column bits => exact placeTile_status_eq_outOfRange_iff row column _ d
  | tileBlockXor color0 color1 row column bits => exact placeTile_status_eq_outOfRange_iff row column _ d
  | _ => simp [TypedInstr.InGrid]

/-- The invariant speaks of the results alone. -/
theorem statusesTell_of_results_eq {s t : State} (h : t.results = s.results) (hs : s.StatusesTell) :
    t.StatusesTell := by
  unfold State.StatusesTell
  rwa [h]

/-- Putting out one more result keeps the invariant when that result tells the truth about its tile. -/
theorem statusesTell_emit {s : State} {i : TypedInstr} {r : Status × Display} (hs : s.StatusesTell)
    (hr : r.1 = .outOfRange ↔ ¬i.InGrid) : (s.emit i r).StatusesTell := by
  intro result hmem
  rw [emit_results, List.mem_append, List.mem_singleton] at hmem
  obtain hbefore | rfl := hmem
  · exact hs result hbefore
  · exact hr

/-- Settles O53, by the cases of a step: holding and the reset input put nothing out, and a record's result carries the
status of `apply`, which is `OutOfRange` exactly outside the grid. -/
theorem everyStepKeepsTheStatusInvariant : Obligations.EveryStepKeepsTheStatusInvariant := by
  intro s t hs hstep
  obtain ⟨-, rfl⟩ | ⟨rest, -, rfl⟩ | ⟨rec, rest, -, rfl⟩ := step_cases hstep
  · exact hs
  · exact statusesTell_of_results_eq (takeReset_results s rest) hs
  · exact statusesTell_emit (statusesTell_of_results_eq (takeRecord_results s rest) hs)
      (apply_status_eq_outOfRange_iff (decode rec).typed s.display)

end Sys2Proof.Proofs
end

section
/-! The memory model's order (spec/20_memory.md R39): a run over waiting records is the fold of the step. The border
region (R27) is the complement of a rectangle, which gives its size. -/

namespace Sys2Proof.Proofs

open Sys2Proof.Machine Sys2Proof.Laws

/-! ### Runs -/

/-- The host's run goes on from the state its first step gives. -/
theorem run_succ_of_step (M : Host.Core) {s t : M.State} (h : M.step s = .next t) (k : Nat) :
    M.run (k + 1) s = M.run k t := by
  simp only [Host.Core.run, h]

/-- A step on a record puts out what `stepRecord` answers for it (R2). -/
theorem step_of_record_eq_stepRecord {s : State} {rec : Record} {rest : List Event}
    (h : s.input = .record rec :: rest) :
    step s = .next {
      display := (stepRecord rec s.display).2
      input := rest
      results := s.results ++ [(stepRecord rec s.display).1] } := by
  rw [step_of_record h, exec_eq_next_emit_apply]
  rfl

@[simp] theorem runRecords_nil (d : Display) : runRecords [] d = ([], d) := rfl

@[simp] theorem runRecords_cons (rec : Record) (recs : List Record) (d : Display) :
    runRecords (rec :: recs) d =
      ((stepRecord rec d).1 :: (runRecords recs (stepRecord rec d).2).1,
        (runRecords recs (stepRecord rec d).2).2) := rfl

/-- Settles O23, by induction on the records that wait, from every state: the first step takes the first record and puts
its result out, and the run over the later records starts from there. -/
theorem runIsTheFoldOverTheRecords : Obligations.RunIsTheFoldOverTheRecords := by
  intro recs rest s hin
  induction recs generalizing s with
  | nil =>
    subst hin
    simp [Host.Core.run]
  | cons rec recs ih =>
    rw [List.length_cons, run_succ_of_step core (step_of_record_eq_stepRecord hin), ih _ rfl]
    simp

/-! ### The border region -/

/-- The interior of R28: rows 6 to 209 and columns 3 to 296. -/
def interior : Finset (Fin 216 × Fin 300) := Finset.Icc 6 209 ×ˢ Finset.Icc 3 296

/-- R28: the interior has 204 rows of 294 cells. -/
theorem card_interior : interior.card = 204 * 294 := by
  rw [interior, Finset.card_product, Fin.card_Icc, Fin.card_Icc]
  rfl

/-- R28: the border region is what the interior leaves of the framebuffer. -/
theorem filter_isBorder_eq_compl_interior :
    (Finset.univ.filter fun p : Fin 216 × Fin 300 => isBorder p.1 p.2 = true) = interiorᶜ := by
  ext ⟨y, x⟩
  simp only [interior, Finset.mem_filter, Finset.mem_univ, true_and, isBorder_iff, Finset.mem_compl,
    Finset.mem_product, Finset.mem_Icc, Fin.le_def, Fin.coe_ofNat_eq_mod]
  omega

/-- Settles O48: the cells of the border region are counted as the framebuffer's without the interior's. -/
theorem borderRegionIsTheRing : Obligations.BorderRegionIsTheRing := by
  refine ⟨isBorder_iff, rfl, rfl, rfl, rfl, ?_⟩
  calc (Finset.univ.filter fun p : Fin 216 × Fin 300 => isBorder p.1 p.2 = true).card
      = interiorᶜ.card := congrArg Finset.card filter_isBorder_eq_compl_interior
    _ = Fintype.card (Fin 216 × Fin 300) - interior.card := Finset.card_compl interior
    _ = 4824 := by rw [card_interior, Fintype.card_prod, Fintype.card_fin, Fintype.card_fin]

end Sys2Proof.Proofs
end

section
/-! The noise bits of a record (spec/30_encoding.md R44, R45) and the records that are Empty by the command gate (R55,
R65) and by the instruction code (R54): every field the decoder reads is a function of the bits that can matter. -/

namespace Sys2Proof.Proofs

/-! ### Masked bytes -/

theorem low6_toNat (b : Byte) : (low6 b).toNat = (b &&& 0x3F).toNat := by
  have hle : (b &&& 0x3F).toNat ≤ 0x3F := by
    rw [BitVec.toNat_and]
    exact Nat.and_le_right
  rw [low6, BitVec.toNat_setWidth]
  exact Nat.mod_eq_of_lt (Nat.lt_succ_of_le hle)

/-- Comparing the 6-bit field with a value is comparing the masked byte with it. -/
theorem low6_eq_iff (b : Byte) (v : BitVec 6) : low6 b = v ↔ b &&& 0x3F = v.setWidth 8 := by
  rw [← BitVec.toNat_inj, ← BitVec.toNat_inj, low6_toNat, BitVec.toNat_setWidth_of_le (by decide)]

/-- Masking twice is masking once. The inner mask is written `0x3F#8`, as `simp` writes literals, so that this and the
lemmas after it rewrite what `pay_withoutNoise` answers. -/
theorem mask_mask (b : Byte) : (b &&& 0x3F#8) &&& 0x3F = b &&& 0x3F := by
  rw [BitVec.and_assoc]
  rfl

@[simp] theorem low6_mask (b : Byte) : low6 (b &&& 0x3F#8) = low6 b := by
  simp only [low6, mask_mask]

@[simp] theorem low5_mask (b : Byte) : low5 (b &&& 0x3F#8) = low5 b := by
  rw [low5, BitVec.and_assoc]
  rfl

@[simp] theorem low4_mask (b : Byte) : low4 (b &&& 0x3F#8) = low4 b := by
  rw [low4, BitVec.and_assoc]
  rfl

@[simp] theorem scrollCmd_mask (b : Byte) : scrollCmd (b &&& 0x3F#8) = scrollCmd b := by
  simp only [scrollCmd, mask_mask]

/-- R49: the colour word is its two bytes side by side, each under the mask of R44. -/
theorem colorWord_eq_append (hi lo : Byte) : colorWord hi lo = (hi &&& 0x3F) ++ (lo &&& 0x3F) := by
  have hbytes : (hi.setWidth 16 <<< 8) ||| lo.setWidth 16 = hi ++ lo := by
    rw [← BitVec.setWidth_append_eq_shiftLeft_setWidth_or, BitVec.setWidth_eq]
  have hmask : (0x3F3F : ColorWord) = (0x3F : Byte) ++ (0x3F : Byte) := rfl
  rw [colorWord, hbytes, hmask, BitVec.and_append]

@[simp] theorem colorWord_mask (hi lo : Byte) : colorWord (hi &&& 0x3F#8) (lo &&& 0x3F#8) = colorWord hi lo := by
  simp only [colorWord_eq_append, mask_mask]

/-! ### The record without its noise -/

/-- The record with zero in every bit that R44 and R45 call noise. -/
def withoutNoise (rec : Record) : Record :=
  Vector.ofFn fun k => if k.val = 0 ∨ k.val = 1 ∨ (4 ≤ k.val ∧ k.val ≤ 19) then rec[k] &&& 0x3F else 0

theorem withoutNoise_congr {a b : Record}
    (h : ∀ k : Fin 24, k.val = 0 ∨ k.val = 1 ∨ (4 ≤ k.val ∧ k.val ≤ 19) → a[k] &&& 0x3F = b[k] &&& 0x3F) :
    withoutNoise a = withoutNoise b :=
  congrArg Vector.ofFn (funext fun k => if_ctx_congr Iff.rfl (h k) fun _ => rfl)

@[simp] theorem commandField_withoutNoise (rec : Record) : commandField (withoutNoise rec) = commandField rec := by
  simp [commandField, withoutNoise]

@[simp] theorem codeField_withoutNoise (rec : Record) : codeField (withoutNoise rec) = codeField rec := by
  simp [codeField, withoutNoise]

@[simp] theorem pay_withoutNoise (rec : Record) (k : Fin 16) : pay (withoutNoise rec) k = pay rec k &&& 0x3F#8 := by
  have hread : 4 ≤ 4 + k.val ∧ 4 + k.val ≤ 19 := by omega
  simp [pay, withoutNoise, hread]

@[simp] theorem repeatField_withoutNoise (rec : Record) : repeatField (withoutNoise rec) = repeatField rec := by
  simp only [repeatField, pay_withoutNoise, low4_mask]

@[simp] theorem colorField_withoutNoise (rec : Record) : colorField (withoutNoise rec) = colorField rec := by
  simp only [colorField, pay_withoutNoise, low4_mask]

@[simp] theorem color1Field_withoutNoise (rec : Record) : color1Field (withoutNoise rec) = color1Field rec := by
  simp only [color1Field, pay_withoutNoise, low4_mask]

@[simp] theorem rowField_withoutNoise (rec : Record) : rowField (withoutNoise rec) = rowField rec := by
  simp only [rowField, pay_withoutNoise, low5_mask]

@[simp] theorem columnField_withoutNoise (rec : Record) : columnField (withoutNoise rec) = columnField rec := by
  simp only [columnField, pay_withoutNoise, low6_mask]

@[simp] theorem bitsField_withoutNoise (rec : Record) : bitsField (withoutNoise rec) = bitsField rec := by
  simp only [bitsField, pay_withoutNoise, low6_mask]

@[simp] theorem entriesField_withoutNoise (rec : Record) : entriesField (withoutNoise rec) = entriesField rec := by
  simp only [entriesField, pay_withoutNoise, colorWord_mask]

@[simp] theorem hCmdField_withoutNoise (rec : Record) : hCmdField (withoutNoise rec) = hCmdField rec := by
  simp only [hCmdField, pay_withoutNoise, scrollCmd_mask]

@[simp] theorem hOffField_withoutNoise (rec : Record) : hOffField (withoutNoise rec) = hOffField rec := by
  simp only [hOffField, pay_withoutNoise, mask_mask]

@[simp] theorem vCmdField_withoutNoise (rec : Record) : vCmdField (withoutNoise rec) = vCmdField rec := by
  simp only [vCmdField, pay_withoutNoise, scrollCmd_mask]

@[simp] theorem vOffField_withoutNoise (rec : Record) : vOffField (withoutNoise rec) = vOffField rec := by
  simp only [vOffField, pay_withoutNoise, mask_mask]

/-- R44 and R45: the decoder reads the record through its fields alone, and no field sees the noise. -/
theorem decode_withoutNoise (rec : Record) : decode (withoutNoise rec) = decode rec := by
  simp [decode]

/-- Settles O2: both records decode as their common record without noise does. -/
theorem noiseBitsAndParityNeverMatter : Obligations.NoiseBitsAndParityNeverMatter := by
  intro a b h
  rw [← decode_withoutNoise a, withoutNoise_congr h, decode_withoutNoise]

/-! ### The Empty rows of the two gates -/

@[simp] theorem emptyNotcdgRow_typed (v : BitVec 6) : (emptyNotcdgRow v).typed = .empty := by
  unfold emptyNotcdgRow
  split <;> rfl

@[simp] theorem emptyReservedRow_typed (v : BitVec 6) : (emptyReservedRow v).typed = .empty := by
  unfold emptyReservedRow
  split <;> rfl

/-- R55 and R65: a command other than 9 decides the row by itself. -/
theorem decode_of_command_ne {rec : Record} (h : commandField rec ≠ 9) :
    decode rec = emptyNotcdgRow (commandField rec) := if_neg h

/-- R54 and R66: behind the gate, a code that is none of the nine defined ones decides the row by itself. -/
theorem decode_of_reserved {rec : Record} (hcommand : commandField rec = 9)
    (hcode : (codeField rec).toNat ∉ [1, 2, 6, 20, 24, 28, 30, 31, 38]) :
    decode rec = emptyReservedRow (codeField rec) := by
  rw [decode, if_pos hcommand]
  split
  case h_10 => rfl
  all_goals next heq => exact absurd (by rw [heq]; decide) hcode

/-- Settles O3: the gate alone sends the record to the Empty row of its command. -/
theorem commandGateComesFirst : Obligations.CommandGateComesFirst := by
  intro rec h
  have hcommand : commandField rec ≠ 9 := fun heq => h ((low6_eq_iff _ _).1 heq)
  rw [decode_of_command_ne hcommand, emptyNotcdgRow_typed]

/-- Settles O4: behind the gate, a code outside the nine falls to the Empty row of its code. -/
theorem reservedCodesAreEmpty : Obligations.ReservedCodesAreEmpty := by
  intro rec h hcode
  have hcommand : commandField rec = 9 := (low6_eq_iff _ _).2 h
  rw [← low6_toNat] at hcode
  rw [decode_of_reserved hcommand hcode, emptyReservedRow_typed]

end Sys2Proof.Proofs
end

section
/-! The rows of Empty (spec/40_decoder_common.md R71): whichever row it stands in, an instruction whose typed
instruction is Empty puts out Empty and OK and does nothing else. -/

namespace Sys2Proof.Proofs

open Sys2Proof.Machine Sys2Proof.Laws

/-- R71: what an Empty row does is said by its typed instruction alone. -/
theorem exec_of_typed_eq_empty {i : Instr} (h : i.typed = .empty) (s : State) :
    exec i s = .next { s with results := s.results ++ [⟨.empty, .ok⟩] } := by
  rw [exec_eq_next_emit_apply, h, apply_empty]
  rfl

theorem typed_of_mem_emptyRepeatRows : ∀ i ∈ emptyRepeatRows, i.typed = .empty := by decide

theorem typed_of_mem_emptyReservedRows : ∀ i ∈ emptyReservedRows, i.typed = .empty := by decide

theorem typed_of_mem_emptyNotcdgRows : ∀ i ∈ emptyNotcdgRows, i.typed = .empty := by decide

/-- Settles O25: all 15 rows are the typed instruction Empty. -/
theorem emptyRepeatRowsDoNothing : Obligations.EmptyRepeatRowsDoNothing :=
  fun i hi => exec_of_typed_eq_empty (typed_of_mem_emptyRepeatRows i hi)

/-- Settles O26: all 55 rows are the typed instruction Empty. -/
theorem emptyReservedRowsDoNothing : Obligations.EmptyReservedRowsDoNothing :=
  fun i hi => exec_of_typed_eq_empty (typed_of_mem_emptyReservedRows i hi)

/-- Settles O27: all 63 rows are the typed instruction Empty. -/
theorem emptyNotcdgRowsDoNothing : Obligations.EmptyNotcdgRowsDoNothing :=
  fun i hi => exec_of_typed_eq_empty (typed_of_mem_emptyNotcdgRows i hi)

end Sys2Proof.Proofs
end

section
/-! The decoder's cases (spec/40_decoder_common.md R63 to R66), said once: which row a record decodes to, and by which
values of its fields. From them follow when a record is Empty (R67) and that the decoder computes the source's algorithm
on plain numbers (R63). -/

namespace Sys2Proof.Proofs

open Sys2Proof.Machine Sys2Proof.Laws

/-! ### The fields as masked bytes -/

theorem low4_toNat (b : Byte) : (low4 b).toNat = (b &&& 0x0F).toNat := by
  have hle : (b &&& 0x0F).toNat ≤ 0x0F := by
    rw [BitVec.toNat_and]
    exact Nat.and_le_right
  rw [low4, BitVec.toNat_setWidth]
  exact Nat.mod_eq_of_lt (Nat.lt_succ_of_le hle)

/-- Comparing the 4-bit field with a value is comparing the masked byte with it. -/
theorem low4_eq_iff (b : Byte) (v : BitVec 4) : low4 b = v ↔ b &&& 0x0F = v.setWidth 8 := by
  rw [← BitVec.toNat_inj, ← BitVec.toNat_inj, low4_toNat, BitVec.toNat_setWidth_of_le (by decide)]

theorem commandField_eq_nine_iff (rec : Record) : commandField rec = 9 ↔ rec[0] &&& 0x3F = 0x09 :=
  low6_eq_iff rec[0] 9

theorem codeField_toNat (rec : Record) : (codeField rec).toNat = (rec[1] &&& 0x3F).toNat :=
  low6_toNat rec[1]

theorem repeatField_eq_zero_iff (rec : Record) : repeatField rec = 0 ↔ rec[5] &&& 0x0F = 0 :=
  low4_eq_iff rec[5] 0

/-! ### The cases of the decoder -/

/-- The ways through the decoder, each with its guards: the command gate (R65), the nine defined codes, the code of a
memory preset twice (R66, R73), and the reserved codes (R54). -/
inductive DecodeCase (rec : Record) : Instr → Prop
  | notCdg (hcommand : commandField rec ≠ 9) : DecodeCase rec (emptyNotcdgRow (commandField rec))
  | memoryPreset (hcommand : commandField rec = 9) (hcode : (codeField rec).toNat = 1)
      (hrepeat : repeatField rec = 0) : DecodeCase rec (.memoryPreset (colorField rec))
  | repeated (hcommand : commandField rec = 9) (hcode : (codeField rec).toNat = 1)
      (hrepeat : repeatField rec ≠ 0) : DecodeCase rec (emptyRepeatRow (repeatField rec))
  | borderPreset (hcommand : commandField rec = 9) (hcode : (codeField rec).toNat = 2) :
      DecodeCase rec (.borderPreset (colorField rec))
  | tileBlock (hcommand : commandField rec = 9) (hcode : (codeField rec).toNat = 6) :
      DecodeCase rec
        (.tileBlock (colorField rec) (color1Field rec) (rowField rec) (columnField rec) (bitsField rec))
  | tileBlockXor (hcommand : commandField rec = 9) (hcode : (codeField rec).toNat = 38) :
      DecodeCase rec
        (.tileBlockXor (colorField rec) (color1Field rec) (rowField rec) (columnField rec) (bitsField rec))
  | loadColorsLow (hcommand : commandField rec = 9) (hcode : (codeField rec).toNat = 30) :
      DecodeCase rec (.loadColorsLow (entriesField rec))
  | loadColorsHigh (hcommand : commandField rec = 9) (hcode : (codeField rec).toNat = 31) :
      DecodeCase rec (.loadColorsHigh (entriesField rec))
  | scrollPreset (hcommand : commandField rec = 9) (hcode : (codeField rec).toNat = 20) :
      DecodeCase rec
        (.scrollPreset (colorField rec) (hCmdField rec) (hOffField rec) (vCmdField rec) (vOffField rec))
  | scrollCopy (hcommand : commandField rec = 9) (hcode : (codeField rec).toNat = 24) :
      DecodeCase rec
        (.scrollCopy (colorField rec) (hCmdField rec) (hOffField rec) (vCmdField rec) (vOffField rec))
  | defineTransparent (hcommand : commandField rec = 9) (hcode : (codeField rec).toNat = 28) :
      DecodeCase rec (.defineTransparent (colorField rec))
  | reserved (hcommand : commandField rec = 9)
      (hcode : (codeField rec).toNat ∉ [1, 2, 6, 20, 24, 28, 30, 31, 38]) :
      DecodeCase rec (emptyReservedRow (codeField rec))

/-- Every record goes one of these ways. -/
theorem decodeCase_decode (rec : Record) : DecodeCase rec (decode rec) := by
  by_cases hcommand : commandField rec = 9
  · rw [decode, if_pos hcommand]
    split
    next hcode =>
      split
      next hrepeat => exact .memoryPreset hcommand hcode hrepeat
      next hrepeat => exact .repeated hcommand hcode hrepeat
    next hcode => exact .borderPreset hcommand hcode
    next hcode => exact .tileBlock hcommand hcode
    next hcode => exact .tileBlockXor hcommand hcode
    next hcode => exact .loadColorsLow hcommand hcode
    next hcode => exact .loadColorsHigh hcommand hcode
    next hcode => exact .scrollPreset hcommand hcode
    next hcode => exact .scrollCopy hcommand hcode
    next hcode => exact .defineTransparent hcommand hcode
    next =>
      -- The match has ruled out the nine codes one by one.
      exact .reserved hcommand (by simp_all)
  · rw [decode_of_command_ne hcommand]
    exact .notCdg hcommand

/-! ### Empty -/

@[simp] theorem emptyRepeatRow_typed (v : BitVec 4) : (emptyRepeatRow v).typed = .empty := by
  unfold emptyRepeatRow
  split <;> rfl

/-- R67 on the fields: three of the cases give an Empty row, and each of the others gives one of the other nine
variants. -/
theorem DecodeCase.typed_eq_empty_iff {rec : Record} {i : Instr} (h : DecodeCase rec i) :
    i.typed = .empty ↔
      commandField rec ≠ 9 ∨
      (commandField rec = 9 ∧ (codeField rec).toNat ∉ [1, 2, 6, 20, 24, 28, 30, 31, 38]) ∨
      (commandField rec = 9 ∧ (codeField rec).toNat = 1 ∧ repeatField rec ≠ 0) := by
  cases h with
  | notCdg hcommand => exact iff_of_true (emptyNotcdgRow_typed _) (.inl hcommand)
  | reserved hcommand hcode => exact iff_of_true (emptyReservedRow_typed _) (.inr (.inl ⟨hcommand, hcode⟩))
  | repeated hcommand hcode hrepeat =>
    exact iff_of_true (emptyRepeatRow_typed _) (.inr (.inr ⟨hcommand, hcode, hrepeat⟩))
  | memoryPreset hcommand hcode hrepeat => simp [Instr.typed, hcommand, hcode, hrepeat]
  | _ hcommand hcode => simp [Instr.typed, hcommand, hcode]

/-- Settles O6: the cases of the decoder on the fields, read as masked bytes. -/
theorem emptyInExactlyThreeCases : Obligations.EmptyInExactlyThreeCases := by
  intro rec
  have hcode_one : (rec[1] &&& 0x3F).toNat = 1 ↔ rec[1] &&& 0x3F = 1 :=
    BitVec.toNat_inj (y := (1 : Byte))
  rw [(decodeCase_decode rec).typed_eq_empty_iff, ne_eq, ne_eq, commandField_eq_nine_iff, codeField_toNat,
    repeatField_eq_zero_iff, hcode_one]

/-! ### The fields on plain numbers -/

theorem recordNumbers_of_lt (rec : Record) {k : Nat} (hk : k < 24) : recordNumbers rec k = rec[k].toNat := by
  simp [recordNumbers, hk]

/-- R43: payload byte `k` is record byte `4 + k`. -/
theorem recordNumbers_pay (rec : Record) {k : Nat} (hk : k < 16) :
    recordNumbers rec (4 + k) = (pay rec ⟨k, hk⟩).toNat :=
  recordNumbers_of_lt rec (by omega)

/-- R65: the source's command gate. -/
theorem recordNumbers_command_iff (rec : Record) : recordNumbers rec 0 &&& 0x3F = 0x09 ↔ commandField rec = 9 := by
  rw [recordNumbers_of_lt rec (by decide), commandField_eq_nine_iff, ← BitVec.toNat_inj, BitVec.toNat_and]
  rfl

/-- R66: the source's instruction. -/
theorem recordNumbers_code (rec : Record) : recordNumbers rec 1 &&& 0x3F = (codeField rec).toNat := by
  rw [recordNumbers_of_lt rec (by decide), codeField_toNat, BitVec.toNat_and]
  rfl

/-- R73: the source's repeat test. -/
theorem recordNumbers_repeat_iff (rec : Record) :
    recordNumbers rec (4 + 1) &&& 0x0F = 0 ↔ repeatField rec = 0 := by
  rw [recordNumbers_of_lt rec (by decide), repeatField_eq_zero_iff, ← BitVec.toNat_inj, BitVec.toNat_and]
  rfl

/-- The colour of the instructions that have one alone. -/
theorem recordNumbers_color (rec : Record) :
    BitVec.ofNat 4 (recordNumbers rec (4 + 0) &&& 0x0F) = colorField rec := by
  rw [recordNumbers_pay rec (by decide)]
  rfl

theorem sourceTileFields_recordNumbers {α : Type} (rec : Record)
    (make : ColorIndex → ColorIndex → BitVec 5 → BitVec 6 → Vector (BitVec 6) 12 → α) :
    sourceTileFields (fun k => recordNumbers rec (4 + k)) make =
      make (colorField rec) (color1Field rec) (rowField rec) (columnField rec) (bitsField rec) := by
  have hbits : (Vector.ofFn fun i : Fin 12 => BitVec.ofNat 6 (recordNumbers rec (4 + (4 + i.val)) &&& 0x3F)) =
      bitsField rec := by
    apply Vector.ext
    intro i hi
    rw [Vector.getElem_ofFn, bitsField, getElem_tabulate, recordNumbers_pay rec (by omega)]
    rfl
  simp only [sourceTileFields, hbits]
  rw [recordNumbers_pay rec (k := 0) (by decide), recordNumbers_pay rec (k := 1) (by decide),
    recordNumbers_pay rec (k := 2) (by decide), recordNumbers_pay rec (k := 3) (by decide)]
  rfl

theorem sourceScrollFields_recordNumbers {α : Type} (rec : Record)
    (make : ColorIndex → BitVec 2 → BitVec 3 → BitVec 2 → BitVec 4 → α) :
    sourceScrollFields (fun k => recordNumbers rec (4 + k)) make =
      make (colorField rec) (hCmdField rec) (hOffField rec) (vCmdField rec) (vOffField rec) := by
  rw [sourceScrollFields, recordNumbers_pay rec (k := 0) (by decide), recordNumbers_pay rec (k := 1) (by decide),
    recordNumbers_pay rec (k := 2) (by decide)]
  rfl

/-- R49: the masked word of two bytes. -/
theorem colorWord_toNat (hi lo : Byte) :
    (colorWord hi lo).toNat = ((hi.toNat <<< 8) ||| lo.toNat) &&& 0x3F3F := by
  rw [colorWord, BitVec.toNat_and, ← BitVec.setWidth_append_eq_shiftLeft_setWidth_or, BitVec.setWidth_eq,
    BitVec.toNat_append]
  rfl

/-- R84: the channels, on plain numbers. -/
theorem sourceRgb_toNat (w : ColorWord) : sourceRgb w.toNat = rgb w := rfl

theorem sourceEntries_recordNumbers (rec : Record) :
    sourceEntries (fun k => recordNumbers rec (4 + k)) = entriesField rec := by
  apply Vector.ext
  intro k hk
  rw [sourceEntries, Vector.getElem_ofFn, entriesField, getElem_tabulate, ← sourceRgb_toNat, colorWord_toNat,
    recordNumbers_pay rec (k := 2 * k) (by omega), recordNumbers_pay rec (k := 2 * k + 1) (by omega)]

/-! ### The source's algorithm -/

/-- R63: with the source's fields read as the decoder's, the source's tests in their order take each case of the decoder
to the case's own variant. -/
theorem DecodeCase.typed_eq_sourceDecode {rec : Record} {i : Instr} (h : DecodeCase rec i) :
    i.typed = sourceDecode (recordNumbers rec) := by
  simp only [sourceDecode, ne_eq, recordNumbers_command_iff, recordNumbers_code, recordNumbers_repeat_iff,
    recordNumbers_color, sourceTileFields_recordNumbers, sourceScrollFields_recordNumbers,
    sourceEntries_recordNumbers]
  cases h with
  | notCdg hcommand => rw [emptyNotcdgRow_typed, if_pos hcommand]
  | reserved hcommand hcode =>
    simp only [List.mem_cons, List.not_mem_nil, or_false, not_or] at hcode
    simp [hcommand, hcode]
  | memoryPreset hcommand hcode hrepeat => simp [Instr.typed, hcommand, hcode, hrepeat]
  | repeated hcommand hcode hrepeat =>
    rw [emptyRepeatRow_typed, if_neg (not_not_intro hcommand), if_pos hcode, if_pos hrepeat]
  | _ hcommand hcode => simp [Instr.typed, hcommand, hcode]

/-- Settles O1: the record goes one of the decoder's ways, and the source's algorithm goes the same way. -/
theorem decodeFollowsTheSourceAlgorithm : Obligations.DecodeFollowsTheSourceAlgorithm :=
  fun rec => (decodeCase_decode rec).typed_eq_sourceDecode

end Sys2Proof.Proofs
end

section
/-! The two presets (spec/41_presets.md): the decoding of the memory preset's code by its repeat count (R73), the fill of
the whole framebuffer (R74) and the fill of its border region (R76). -/

namespace Sys2Proof.Proofs

open Sys2Proof.Machine Sys2Proof.Laws

/-- R73: behind the gate, code 1 leaves the choice of the row to the repeat count. -/
theorem decode_of_code_one {rec : Record} (hcommand : commandField rec = 9) (hcode : (codeField rec).toNat = 1) :
    decode rec =
      if repeatField rec = 0 then .memoryPreset (colorField rec) else emptyRepeatRow (repeatField rec) := by
  simp [decode, hcommand, hcode]

/-- Settles O5: the repeat field, read as the masked byte 5, chooses the row. -/
theorem memoryPresetDecodesByItsRepeat : Obligations.MemoryPresetDecodesByItsRepeat := by
  intro rec h hone
  have hcode : (codeField rec).toNat = 1 := by
    rw [codeField_toNat, hone]
    rfl
  rw [decode_of_code_one ((commandField_eq_nine_iff rec).2 h) hcode]
  constructor
  · intro hrepeat
    rw [if_pos ((repeatField_eq_zero_iff rec).2 hrepeat)]
    rfl
  · intro hrepeat
    rw [if_neg (mt (repeatField_eq_zero_iff rec).1 hrepeat), emptyRepeatRow_typed]

/-- Settles O28: the new framebuffer is the fill of `apply_memoryPreset`. -/
theorem memoryPresetFillsTheScreen : Obligations.MemoryPresetFillsTheScreen := by
  intro c s
  refine ⟨.fill c, ?_, get_fill c⟩
  rw [exec_eq_next_emit_apply, Instr.typed, apply_memoryPreset]
  rfl

/-- Settles O29: the new framebuffer is the border fill of `apply_borderPreset`, and `isBorder_iff` says which cells it
takes. -/
theorem borderPresetFillsTheBorder : Obligations.BorderPresetFillsTheBorder := by
  intro c s
  refine ⟨s.display.framebuffer.fillBorder c, ?_, ?_⟩
  · rw [exec_eq_next_emit_apply, Instr.typed, apply_borderPreset]
    rfl
  · intro y x
    simp only [get_fillBorder, isBorder_iff]

end Sys2Proof.Proofs
end

section
/-! The two tile instructions (spec/42_tile_block.md): the bounds test (R79), the pixel select read on plain numbers
(R80), and the cells an accepted tile rewrites and leaves (R81, R82). -/

namespace Sys2Proof.Proofs

open Sys2Proof.Machine Sys2Proof.Laws

/-- `exec` puts out what `apply` answers and takes its Display State (R2). -/
theorem exec_of_apply_eq {i : Instr} {s : State} {status : Status} {d : Display}
    (h : apply i.typed s.display = (status, d)) :
    exec i s = .next { s with display := d, results := s.results ++ [⟨i.typed, status⟩] } := by
  rw [exec_eq_next_emit_apply, h]
  rfl

/-- R79: a tile lies partly outside the framebuffer exactly when its place lies outside the 18 by 50 grid of tiles. -/
theorem tileBounds_iff (row col : Nat) : row * 12 + 11 ≥ 216 ∨ col * 6 + 5 ≥ 300 ↔ row ≥ 18 ∨ col ≥ 50 := by
  omega

/-- R80: the pixel select, the bitmap row shifted and masked as a plain number. -/
theorem sel_eq_shiftRight_and (c0 c1 : ColorIndex) (bits : Vector (BitVec 6) 12) (i : Fin 12) (j : Fin 6) :
    sel c0 c1 bits i j = if ((bits[i]).toNat >>> (5 - j.val)) &&& 1 = 1 then c1 else c0 := by
  have hbit : (bits[i]).getLsbD (5 - j.val) = true ↔ ((bits[i]).toNat >>> (5 - j.val)) &&& 1 = 1 := by
    rw [BitVec.getLsbD, Nat.testBit_eq_decide_div_mod_eq, decide_eq_true_iff, Nat.and_one_is_mod,
      Nat.shiftRight_eq_div_pow]
  simp only [sel, hbit]

/-- A cell that no in-tile row and column number keeps its value. -/
theorem get_paintTile_of_forall_not (fb : Framebuffer) (row col : Nat)
    (new : Fin 12 → Fin 6 → ColorIndex → ColorIndex) (y : Fin 216) (x : Fin 300)
    (h : ∀ (i : Fin 12) (j : Fin 6), ¬(y.val = row * 12 + i.val ∧ x.val = col * 6 + j.val)) :
    (fb.paintTile row col new).get y x = fb.get y x := by
  refine get_paintTile_outside fb row col new y x fun ⟨hrow, hrow', hcol, hcol'⟩ => ?_
  exact h ⟨y.val - row * 12, by omega⟩ ⟨x.val - col * 6, by omega⟩
    ⟨(Nat.add_sub_cancel' hrow).symm, (Nat.add_sub_cancel' hcol).symm⟩

/-- An instruction that places a tile: outside the grid it puts out `OutOfRange` and changes nothing (R79); inside, it puts
out OK, makes of each of the 72 cells what `new` says and leaves the rest (R81, R82). -/
theorem exec_of_apply_eq_placeTile {instr : Instr} {s : State} {row : BitVec 5} {col : BitVec 6}
    {new : Fin 12 → Fin 6 → ColorIndex → ColorIndex}
    (h : apply instr.typed s.display = placeTile row col new s.display) :
    (row.toNat * 12 + 11 ≥ 216 ∨ col.toNat * 6 + 5 ≥ 300 →
      exec instr s = .next { s with results := s.results ++ [⟨instr.typed, .outOfRange⟩] }) ∧
    (row.toNat * 12 + 11 < 216 → col.toNat * 6 + 5 < 300 → ∃ fb : Framebuffer,
      exec instr s = .next { s with
        display := { s.display with framebuffer := fb }
        results := s.results ++ [⟨instr.typed, .ok⟩] } ∧
      (∀ (i : Fin 12) (j : Fin 6) (y : Fin 216) (x : Fin 300),
        y.val = row.toNat * 12 + i.val → x.val = col.toNat * 6 + j.val →
        fb.get y x = new i j (s.display.framebuffer.get y x)) ∧
      (∀ (y : Fin 216) (x : Fin 300),
        (∀ (i : Fin 12) (j : Fin 6), ¬(y.val = row.toNat * 12 + i.val ∧ x.val = col.toNat * 6 + j.val)) →
        fb.get y x = s.display.framebuffer.get y x)) := by
  have htest : tileOutOfRange row col = true ↔ row.toNat * 12 + 11 ≥ 216 ∨ col.toNat * 6 + 5 ≥ 300 :=
    (tileOutOfRange_iff row col).trans (tileBounds_iff _ _).symm
  constructor
  · intro hout
    exact exec_of_apply_eq (h.trans (placeTile_rejected (htest.2 hout) new s.display))
  · intro hrow hcol
    have haccepted : tileOutOfRange row col = false := by
      rw [← Bool.not_eq_true, htest]
      omega
    exact ⟨s.display.framebuffer.paintTile row.toNat col.toNat new,
      exec_of_apply_eq (h.trans (placeTile_accepted haccepted new s.display)),
      fun i j y x => get_paintTile_inside _ _ _ _ y x i j,
      get_paintTile_of_forall_not _ _ _ _⟩

/-- Settles O30: TileBlock places a tile whose new cells are the selected colours. -/
theorem tileBlockOverwritesItsTile : Obligations.TileBlockOverwritesItsTile := by
  intro c0 c1 row col bits s
  simp only [← sel_eq_shiftRight_and]
  exact exec_of_apply_eq_placeTile (instr := .tileBlock c0 c1 row col bits) rfl

/-- Settles O31: TileBlockXor places a tile whose new cells are the old ones XORed with the selected colours. -/
theorem tileBlockXorXorsItsTile : Obligations.TileBlockXorXorsItsTile := by
  intro c0 c1 row col bits s
  simp only [← sel_eq_shiftRight_and]
  exact exec_of_apply_eq_placeTile (instr := .tileBlockXor c0 c1 row col bits) rfl

/-- Settles O32: O30 and O31 say what both instructions do on either side of the test. -/
theorem tileBoundsTestDecidesTheStatus : Obligations.TileBoundsTestDecidesTheStatus := by
  intro c0 c1 row col bits s
  obtain ⟨hrejected, haccepted⟩ := tileBlockOverwritesItsTile c0 c1 row col bits s
  obtain ⟨hrejectedXor, hacceptedXor⟩ := tileBlockXorXorsItsTile c0 c1 row col bits s
  refine ⟨tileBounds_iff _ _, fun hout => ⟨hrejected hout, hrejectedXor hout⟩, fun hin => ?_⟩
  obtain ⟨hrow, hcol⟩ := not_or.1 hin
  obtain ⟨_, hexec, -⟩ := haccepted (not_le.1 hrow) (not_le.1 hcol)
  obtain ⟨_, hexecXor, -⟩ := hacceptedXor (not_le.1 hrow) (not_le.1 hcol)
  exact ⟨⟨_, hexec, rfl⟩, ⟨_, hexecXor, rfl⟩⟩

end Sys2Proof.Proofs
end

section
/-! The colour-table loads (spec/43_load_colors.md): the bank that LoadColorsLow rewrites and the bank it leaves (R88). -/

namespace Sys2Proof.Proofs

open Sys2Proof.Machine Sys2Proof.Laws

/-- Settles O33: the new table is the low load of `apply_loadColorsLow`, read in either bank by `setLow_low` and
`setLow_high`. -/
theorem loadColorsLowSetsTheLowBank : Obligations.LoadColorsLowSetsTheLowBank := by
  intro entries s
  refine ⟨s.display.colorTable.setLow entries, ?_, ?_, ?_⟩
  · exact exec_of_apply_eq (apply_loadColorsLow entries s.display)
  · exact fun k => setLow_low _ entries k.val k.isLt
  · exact fun k => setLow_high _ entries k.val k.isLt

end Sys2Proof.Proofs
end

section
/-! The scrolls' offsets (spec/44_scroll.md R93): `apply` answers one and the same for both pairs of offsets, and the
instructions of one answer lead to one Display State. -/

namespace Sys2Proof.Proofs

open Sys2Proof.Machine Sys2Proof.Laws

/-- Two instructions for which `apply` gives one answer have the same effect on the Display State; the result put out
names the instruction that ran (R2). -/
theorem exec_display_eq_of_apply_eq {i j : Instr} {s : State} {status : Status} {d : Display}
    (hi : apply i.typed s.display = (status, d)) (hj : apply j.typed s.display = (status, d)) :
    ∃ t t', exec i s = .next t ∧ exec j s = .next t' ∧ t.display = t'.display ∧
      t.results = s.results ++ [⟨i.typed, status⟩] :=
  ⟨_, _, exec_of_apply_eq hi, exec_of_apply_eq hj, rfl, rfl⟩

/-- Settles O38: the answers of `apply_scrollPreset` and `apply_scrollCopy` do not mention the offsets. -/
theorem scrollOffsetsHaveNoEffect : Obligations.ScrollOffsetsHaveNoEffect := by
  intro c hCmd hOff hOff' vCmd vOff vOff' s
  constructor
  · exact exec_display_eq_of_apply_eq (apply_scrollPreset c hCmd hOff vCmd vOff s.display)
      (apply_scrollPreset c hCmd hOff' vCmd vOff' s.display)
  · exact exec_display_eq_of_apply_eq (apply_scrollCopy c hCmd hOff vCmd vOff s.display)
      (apply_scrollCopy c hCmd hOff' vCmd vOff' s.display)

end Sys2Proof.Proofs
end

section
/-! DefineTransparent (spec/45_define_transparent.md R101): the one register it writes. -/

namespace Sys2Proof.Proofs

open Sys2Proof.Machine Sys2Proof.Laws

/-- Settles O37: `apply_defineTransparent` changes one register of the Display State, and `exec` puts out what `apply`
answers. -/
theorem defineTransparentSetsItsRegister : Obligations.DefineTransparentSetsItsRegister := fun c s =>
  exec_of_apply_eq (i := .defineTransparent c) (apply_defineTransparent c s.display)

end Sys2Proof.Proofs
end

section
/-! The one exception (spec/60_exceptions.md R102): which instructions are tiles outside the grid, what `apply` answers
for them, and how the status put out is read off the results. -/

namespace Sys2Proof.Proofs

open Sys2Proof.Machine Sys2Proof.Laws

/-- R79: a place lies outside the 18 by 50 grid exactly when the tile fails the bounds test. -/
theorem not_grid_iff_tileBounds (row : BitVec 5) (col : BitVec 6) :
    ¬(row.toNat ≤ 17 ∧ col.toNat ≤ 49) ↔ row.toNat * 12 + 11 ≥ 216 ∨ col.toNat * 6 + 5 ≥ 300 := by
  omega

/-- R102, R103: of the opcode table's rows, only the two tile instructions can lie outside the grid. -/
theorem not_inGrid_typed_iff (i : Instr) :
    ¬i.typed.InGrid ↔ ∃ c0 c1 row col bits,
      (i = .tileBlock c0 c1 row col bits ∨ i = .tileBlockXor c0 c1 row col bits) ∧
      (row.toNat * 12 + 11 ≥ 216 ∨ col.toNat * 6 + 5 ≥ 300) := by
  constructor
  · intro hout
    cases i with
    | tileBlock c0 c1 row col bits =>
      exact ⟨c0, c1, row, col, bits, .inl rfl, (not_grid_iff_tileBounds row col).1 hout⟩
    | tileBlockXor c0 c1 row col bits =>
      exact ⟨c0, c1, row, col, bits, .inr rfl, (not_grid_iff_tileBounds row col).1 hout⟩
    | _ => exact absurd trivial hout
  · rintro ⟨c0, c1, row, col, bits, rfl | rfl, hbounds⟩
    · exact (not_grid_iff_tileBounds row col).2 hbounds
    · exact (not_grid_iff_tileBounds row col).2 hbounds

/-- R102: outside the grid `apply` raises `OutOfRange` on the Display State as it was. -/
theorem apply_of_not_inGrid {t : TypedInstr} (hout : ¬t.InGrid) (d : Display) : apply t d = (.outOfRange, d) := by
  cases t with
  | tileBlock c0 c1 row col bits =>
    exact apply_tileBlock_rejected (by simp only [TypedInstr.InGrid] at hout; omega) c0 c1 bits d
  | tileBlockXor c0 c1 row col bits =>
    exact apply_tileBlockXor_rejected (by simp only [TypedInstr.InGrid] at hout; omega) c0 c1 bits d
  | _ => exact absurd trivial hout

/-- R121: the status of the result put out is the one `apply` answers. -/
theorem results_emit_eq_iff (s : State) (t : TypedInstr) (r : Status × Display) (status : Status) :
    (s.emit t r).results = s.results ++ [⟨t, status⟩] ↔ r.1 = status := by
  simp

/-- Settles O52: the status put out is `OutOfRange` exactly outside the grid, where `apply` keeps the Display State. -/
theorem outOfRangeIsRaisedByTilesOnly : Obligations.OutOfRangeIsRaisedByTilesOnly := by
  intro i s t hexec
  rw [exec_eq_next_emit_apply, Host.Outcome.next.injEq] at hexec
  subst hexec
  rw [results_emit_eq_iff, apply_status_eq_outOfRange_iff, emit_display]
  exact ⟨fun hout => congrArg Prod.snd (apply_of_not_inGrid hout s.display), not_inGrid_typed_iff i⟩

end Sys2Proof.Proofs
end

section
/-! The colours of a load-colours record (spec/30_encoding.md R49, spec/43_load_colors.md R84) as arithmetic on their two
bytes. -/

namespace Sys2Proof.Proofs

open Sys2Proof.Machine Sys2Proof.Laws

theorem and_63_toNat (b : Byte) : (b &&& 0x3F).toNat = b.toNat % 64 := by
  rw [BitVec.toNat_and]
  exact Nat.and_two_pow_sub_one_eq_mod b.toNat 6

theorem and_15_toNat (w : ColorWord) : (w &&& 0xF).toNat = w.toNat % 16 := by
  rw [BitVec.toNat_and]
  exact Nat.and_two_pow_sub_one_eq_mod w.toNat 4

/-- R49: the masked word of two bytes, as a sum. -/
theorem colorWord_toNat_eq_add (hi lo : Byte) :
    (colorWord hi lo).toNat = hi.toNat % 64 * 256 + lo.toNat % 64 := by
  rw [colorWord_eq_append, BitVec.toNat_append, and_63_toNat, and_63_toNat,
    ← Nat.shiftLeft_add_eq_or_of_lt (by omega), Nat.shiftLeft_eq]

/-- R84: red is bits 13 to 10 of the word. -/
theorem rgb_r_toNat (w : ColorWord) : (rgb w).r.toNat = w.toNat / 1024 % 16 := by
  rw [rgb, BitVec.toNat_setWidth, and_15_toNat, BitVec.toNat_ushiftRight, Nat.shiftRight_eq_div_pow]
  exact Nat.mod_mod _ 16

/-- R84: green is bits 9 and 8 of the word before bits 5 and 4. -/
theorem rgb_g_toNat (w : ColorWord) :
    (rgb w).g.toNat = (w.toNat / 64 &&& 12 ||| w.toNat / 16 % 16) % 16 := by
  rw [rgb, BitVec.toNat_setWidth, BitVec.toNat_or, and_15_toNat, BitVec.toNat_and, BitVec.toNat_ushiftRight,
    BitVec.toNat_ushiftRight, Nat.shiftRight_eq_div_pow, Nat.shiftRight_eq_div_pow]
  rfl

/-- R84: blue is bits 3 to 0 of the word. -/
theorem rgb_b_toNat (w : ColorWord) : (rgb w).b.toNat = w.toNat % 16 := by
  rw [rgb, BitVec.toNat_setWidth, and_15_toNat]
  exact Nat.mod_mod _ 16

/-- Settles O13: red and blue are digits of the word's number; the two halves of green have no bit in common, so their OR
is their sum. -/
theorem channelsFromTheTwoBytes : Obligations.ChannelsFromTheTwoBytes := by
  intro hi lo
  rw [rgb_r_toNat, rgb_g_toNat, rgb_b_toNat, colorWord_toNat_eq_add]
  refine ⟨by omega, ?_, by omega⟩
  generalize hi.toNat = h, lo.toNat = l
  have hword : (h % 64 * 256 + l % 64) / 64 = (h % 64) <<< 2 := by rw [Nat.shiftLeft_eq]; omega
  have hlow : (h % 64 * 256 + l % 64) / 16 % 16 = l % 64 / 16 := by omega
  have hhigh : (h % 64) <<< 2 &&& 12 = (h % 4) <<< 2 := by
    rw [show 12 = 3 <<< 2 from rfl, ← Nat.shiftLeft_and_distrib, Nat.and_two_pow_sub_one_eq_mod _ 2,
      Nat.mod_mod_of_dvd h (by decide)]
  rw [hword, hlow, hhigh, ← Nat.shiftLeft_add_eq_or_of_lt (by omega)]
  omega

end Sys2Proof.Proofs
end

section
/-! The canonical encoder (spec/30_encoding.md R62): every field of a canonical record holds the operand it was made
from, so decoding gives the instruction back. -/

namespace Sys2Proof.Proofs

open Sys2Proof.Machine Sys2Proof.Laws

/-! ### Operands in a byte -/

@[simp] theorem low4_setWidth (v : BitVec 4) : low4 (v.setWidth 8) = v := by
  revert v; decide

@[simp] theorem low5_setWidth (v : BitVec 5) : low5 (v.setWidth 8) = v := by
  revert v; decide

@[simp] theorem low6_setWidth (v : BitVec 6) : low6 (v.setWidth 8) = v := by
  revert v; decide

/-- R50: a scroll field whose lower bits stay below the command gives the command back. -/
theorem scrollCmd_hField (cmd : BitVec 2) (off : BitVec 3) :
    scrollCmd ((cmd.setWidth 8 <<< 4) ||| off.setWidth 8) = cmd := by
  revert cmd off; decide

/-- R50: the same of the vertical field, whose offset has four bits. -/
theorem scrollCmd_vField (cmd : BitVec 2) (off : BitVec 4) :
    scrollCmd ((cmd.setWidth 8 <<< 4) ||| off.setWidth 8) = cmd := by
  revert cmd off; decide

/-- R50: the horizontal offset in a scroll field. -/
def hOffOf (b : Byte) : BitVec 3 := ((b &&& 0x3F) &&& 0x07).setWidth 3

/-- R50: the vertical offset in a scroll field. -/
def vOffOf (b : Byte) : BitVec 4 := ((b &&& 0x3F) &&& 0x0F).setWidth 4

theorem hOffField_eq (rec : Record) : hOffField rec = hOffOf (pay rec 1) := rfl

theorem vOffField_eq (rec : Record) : vOffField rec = vOffOf (pay rec 2) := rfl

theorem hOffOf_hField (cmd : BitVec 2) (off : BitVec 3) :
    hOffOf ((cmd.setWidth 8 <<< 4) ||| off.setWidth 8) = off := by
  revert cmd off; decide

theorem vOffOf_vField (cmd : BitVec 2) (off : BitVec 4) :
    vOffOf ((cmd.setWidth 8 <<< 4) ||| off.setWidth 8) = off := by
  revert cmd off; decide

/-- R62: the high byte of a colour, red before the upper half of green. -/
theorem highByte_toNat (r g : BitVec 4) :
    ((r.setWidth 8 <<< 2) ||| (g.setWidth 8 >>> 2) : Byte).toNat = r.toNat * 4 + g.toNat / 4 := by
  revert r g; decide

/-- R62: the low byte of a colour, the lower half of green before blue. -/
theorem lowByte_toNat (g b : BitVec 4) :
    (((g.setWidth 8 &&& 3) <<< 4) ||| b.setWidth 8 : Byte).toNat = g.toNat % 4 * 16 + b.toNat := by
  revert g b; decide

/-- R62, R84: the channels of the two bytes of a colour are the colour's. -/
theorem rgb_colorWord_colorBytes (e : Rgb) :
    rgb (colorWord ((e.r.setWidth 8 <<< 2) ||| (e.g.setWidth 8 >>> 2))
      (((e.g.setWidth 8 &&& 3) <<< 4) ||| e.b.setWidth 8)) = e := by
  obtain ⟨r, g, b⟩ := e
  obtain ⟨hr, hg, hb⟩ := channelsFromTheTwoBytes ((r.setWidth 8 <<< 2) ||| (g.setWidth 8 >>> 2))
    (((g.setWidth 8 &&& 3) <<< 4) ||| b.setWidth 8)
  rw [highByte_toNat] at hr
  rw [highByte_toNat, lowByte_toNat] at hg
  rw [lowByte_toNat] at hb
  have hr : (rgb _).r = r := BitVec.eq_of_toNat_eq (hr.trans (by omega))
  have hg : (rgb _).g = g := BitVec.eq_of_toNat_eq (hg.trans (by omega))
  have hb : (rgb _).b = b := BitVec.eq_of_toNat_eq (hb.trans (by omega))
  exact congr (congr (congrArg Rgb.mk hr) hg) hb

/-! ### The fields of a canonical record -/

theorem commandField_recordOf (command code : Byte) (p : Vector Byte 16) :
    commandField (recordOf command code p) = low6 command := by
  simp [commandField, recordOf]

theorem codeField_recordOf (command code : Byte) (p : Vector Byte 16) :
    codeField (recordOf command code p) = low6 code := by
  simp [codeField, recordOf]

theorem pay_recordOf (command code : Byte) (p : Vector Byte 16) (k : Fin 16) :
    pay (recordOf command code p) k = p[k] := by
  have hne : 4 + k.val ≠ 0 ∧ 4 + k.val ≠ 1 := by omega
  have hpay : 4 + k.val < 20 := by omega
  simp [pay, recordOf, hne, hpay]

theorem colorField_recordOf_payload (command code : Byte) (color : ColorIndex) :
    colorField (recordOf command code (payload [color.setWidth 8])) = color := by
  simp [colorField, pay_recordOf, payload]

theorem tileFields_recordOf (command code : Byte) (color0 color1 : ColorIndex) (row : BitVec 5)
    (column : BitVec 6) (bits : Vector (BitVec 6) 12) :
    let r := recordOf command code (tilePayload color0 color1 row column bits)
    colorField r = color0 ∧ color1Field r = color1 ∧ rowField r = row ∧ columnField r = column ∧
      bitsField r = bits := by
  refine ⟨?_, ?_, ?_, ?_, Vector.ext fun i hi => ?_⟩
  · simp [colorField, pay_recordOf, tilePayload]
  · simp [color1Field, pay_recordOf, tilePayload]
  · simp [rowField, pay_recordOf, tilePayload]
  · simp [columnField, pay_recordOf, tilePayload]
  · have hne : 4 + i ≠ 0 ∧ 4 + i ≠ 1 ∧ 4 + i ≠ 2 := by omega
    simp [bitsField, pay_recordOf, tilePayload, hne]

theorem scrollFields_recordOf (command code : Byte) (color : ColorIndex) (hCmd : BitVec 2) (hOff : BitVec 3)
    (vCmd : BitVec 2) (vOff : BitVec 4) :
    let r := recordOf command code (scrollPayload color hCmd hOff vCmd vOff)
    colorField r = color ∧ hCmdField r = hCmd ∧ hOffField r = hOff ∧ vCmdField r = vCmd ∧
      vOffField r = vOff := by
  refine ⟨?_, ?_, ?_, ?_, ?_⟩
  · simp [colorField, pay_recordOf, scrollPayload, payload]
  · simp [hCmdField, pay_recordOf, scrollPayload, payload, scrollCmd_hField]
  · simp [hOffField_eq, pay_recordOf, scrollPayload, payload, hOffOf_hField]
  · simp [vCmdField, pay_recordOf, scrollPayload, payload, scrollCmd_vField]
  · simp [vOffField_eq, pay_recordOf, scrollPayload, payload, vOffOf_vField]

theorem entriesField_recordOf (command code : Byte) (entries : Vector Rgb 8) :
    entriesField (recordOf command code (colorsPayload entries)) = entries := by
  apply Vector.ext
  intro k hk
  have hhalf : 2 * k / 2 = k ∧ (2 * k + 1) / 2 = k := by omega
  simp only [entriesField, getElem_tabulate, pay_recordOf, colorsPayload, Fin.getElem_fin, hhalf,
    Nat.mul_mod_right, Nat.mul_add_mod, if_true, Nat.one_mod, one_ne_zero, if_false]
  exact rgb_colorWord_colorBytes entries[k]

/-! ### Decoding a canonical record -/

/-- The guards of a way through the decoder decide the row. -/
theorem DecodeCase.decode_eq {rec : Record} {i : Instr} (h : DecodeCase rec i) : decode rec = i := by
  cases h with
  | notCdg hcommand => exact decode_of_command_ne hcommand
  | reserved hcommand hcode => exact decode_of_reserved hcommand hcode
  | memoryPreset hcommand hcode hrepeat => rw [decode_of_code_one hcommand hcode, if_pos hrepeat]
  | repeated hcommand hcode hrepeat => rw [decode_of_code_one hcommand hcode, if_neg hrepeat]
  | _ hcommand hcode => simp [decode, hcommand, hcode]

/-- Settles O7: the record of a defined instruction goes the way of its code, and its fields are the operands. The record
of an Empty row is a constant, which the decoder evaluates. -/
theorem decodeInvertsEncode : Obligations.DecodeInvertsEncode := by
  intro i
  have hcommand (code : Byte) (p : Vector Byte 16) : commandField (recordOf 0x09 code p) = 9 :=
    commandField_recordOf 0x09 code p
  have hcode {code : Byte} {n : Nat} (h : (low6 code).toNat = n) (p : Vector Byte 16) :
      (codeField (recordOf 0x09 code p)).toNat = n := by rw [codeField_recordOf, h]
  cases i with
  | memoryPreset color =>
    have hrepeat : repeatField (recordOf 0x09 1 (payload [color.setWidth 8])) = 0 := by
      simp [repeatField, pay_recordOf, payload, low4]
    rw [encode, (DecodeCase.memoryPreset (hcommand _ _) (hcode rfl _) hrepeat).decode_eq, colorField_recordOf_payload]
  | borderPreset color =>
    rw [encode, (DecodeCase.borderPreset (hcommand _ _) (hcode rfl _)).decode_eq, colorField_recordOf_payload]
  | defineTransparent color =>
    rw [encode, (DecodeCase.defineTransparent (hcommand _ _) (hcode rfl _)).decode_eq, colorField_recordOf_payload]
  | loadColorsLow entries =>
    rw [encode, (DecodeCase.loadColorsLow (hcommand _ _) (hcode rfl _)).decode_eq, entriesField_recordOf]
  | loadColorsHigh entries =>
    rw [encode, (DecodeCase.loadColorsHigh (hcommand _ _) (hcode rfl _)).decode_eq, entriesField_recordOf]
  | tileBlock color0 color1 row column bits =>
    obtain ⟨hc0, hc1, hrow, hcol, hbits⟩ := tileFields_recordOf 0x09 6 color0 color1 row column bits
    rw [encode, (DecodeCase.tileBlock (hcommand _ _) (hcode rfl _)).decode_eq, hc0, hc1, hrow, hcol, hbits]
  | tileBlockXor color0 color1 row column bits =>
    obtain ⟨hc0, hc1, hrow, hcol, hbits⟩ := tileFields_recordOf 0x09 38 color0 color1 row column bits
    rw [encode, (DecodeCase.tileBlockXor (hcommand _ _) (hcode rfl _)).decode_eq, hc0, hc1, hrow, hcol, hbits]
  | scrollPreset color hCmd hOff vCmd vOff =>
    obtain ⟨hc, hh, hho, hv, hvo⟩ := scrollFields_recordOf 0x09 20 color hCmd hOff vCmd vOff
    rw [encode, (DecodeCase.scrollPreset (hcommand _ _) (hcode rfl _)).decode_eq, hc, hh, hho, hv, hvo]
  | scrollCopy color hCmd hOff vCmd vOff =>
    obtain ⟨hc, hh, hho, hv, hvo⟩ := scrollFields_recordOf 0x09 24 color hCmd hOff vCmd vOff
    rw [encode, (DecodeCase.scrollCopy (hcommand _ _) (hcode rfl _)).decode_eq, hc, hh, hho, hv, hvo]
  | _ => rfl

end Sys2Proof.Proofs
end

section
/-! The opcode table (spec/30_encoding.md section 8): a row's mask and match as six bytes, the row that the command, the
code and the repeat count of a record select, and the records that the table words stand for. -/

namespace Sys2Proof.Proofs

open Sys2Proof.Machine Sys2Proof.Laws

/-! ### Keys of six bytes -/

/-- Six bytes side by side, the first the most significant, as in `tableKey`. -/
def sixBytes (b0 b1 b2 b3 b4 b5 : Byte) : BitVec (8 + 8 + 8 + 8 + 8 + 8) := b0 ++ b1 ++ b2 ++ b3 ++ b4 ++ b5

theorem sixBytes_and (a0 a1 a2 a3 a4 a5 b0 b1 b2 b3 b4 b5 : Byte) :
    sixBytes a0 a1 a2 a3 a4 a5 &&& sixBytes b0 b1 b2 b3 b4 b5 =
      sixBytes (a0 &&& b0) (a1 &&& b1) (a2 &&& b2) (a3 &&& b3) (a4 &&& b4) (a5 &&& b5) := by
  simp only [sixBytes, BitVec.and_append]

theorem append_inj_iff {v w : Nat} (a b : BitVec v) (c d : BitVec w) : a ++ c = b ++ d ↔ a = b ∧ c = d := by
  constructor
  · intro h
    have hlow : c = d := by
      rw [← BitVec.extractLsb'_append_eq_right (a := a) (b := c), h, BitVec.extractLsb'_append_eq_right]
    subst hlow
    exact ⟨(BitVec.append_left_inj c).1 h, rfl⟩
  · rintro ⟨rfl, rfl⟩
    rfl

theorem sixBytes_inj (a0 a1 a2 a3 a4 a5 b0 b1 b2 b3 b4 b5 : Byte) :
    sixBytes a0 a1 a2 a3 a4 a5 = sixBytes b0 b1 b2 b3 b4 b5 ↔
      a0 = b0 ∧ a1 = b1 ∧ a2 = b2 ∧ a3 = b3 ∧ a4 = b4 ∧ a5 = b5 := by
  simp only [sixBytes, append_inj_iff, and_assoc]

/-- A row of six-byte mask and match accepts a key byte by byte. -/
theorem accepts_sixBytes_iff (m0 m1 m2 m3 m4 m5 p0 p1 p2 p3 p4 p5 : Byte) (rec : Record) :
    TableRow.accepts ⟨sixBytes m0 m1 m2 m3 m4 m5, sixBytes p0 p1 p2 p3 p4 p5⟩ (tableKey rec) = true ↔
      rec[0] &&& m0 = p0 ∧ rec[1] &&& m1 = p1 ∧ rec[2] &&& m2 = p2 ∧ rec[3] &&& m3 = p3 ∧ rec[4] &&& m4 = p4 ∧
        rec[5] &&& m5 = p5 := by
  have hbytes := sixBytes_inj (rec[0] &&& m0) (rec[1] &&& m1) (rec[2] &&& m2) (rec[3] &&& m3) (rec[4] &&& m4)
    (rec[5] &&& m5) p0 p1 p2 p3 p4 p5
  rw [← sixBytes_and] at hbytes
  exact beq_iff_eq.trans hbytes

/-! ### The row that a record's fields select -/

/-- Section 8: a row that tests the command alone, one that tests the repeat count behind code 1, or one that tests the
code. -/
def fieldsRow (command code : BitVec 6) (count : BitVec 4) : TableRow :=
  if command ≠ 9 then ⟨sixBytes 0x3F 0 0 0 0 0, sixBytes (command.setWidth 8) 0 0 0 0 0⟩
  else if code = 1 then ⟨sixBytes 0x3F 0x3F 0 0 0 0x0F, sixBytes 9 1 0 0 0 (count.setWidth 8)⟩
  else ⟨sixBytes 0x3F 0x3F 0 0 0 0, sixBytes 9 (code.setWidth 8) 0 0 0 0⟩

theorem emptyNotcdgRow_row (command code : BitVec 6) (count : BitVec 4) (h : command ≠ 9) :
    (emptyNotcdgRow command).row = fieldsRow command code count := by
  rw [fieldsRow, if_pos h]
  revert command; decide

theorem emptyRepeatRow_row (count : BitVec 4) (h : count ≠ 0) : (emptyRepeatRow count).row = fieldsRow 9 1 count := by
  revert count; decide

theorem emptyReservedRow_row (code : BitVec 6) (count : BitVec 4)
    (h : code.toNat ∉ [1, 2, 6, 20, 24, 28, 30, 31, 38]) :
    (emptyReservedRow code).row = fieldsRow 9 code count := by
  have hne : code ≠ 1 := by rintro rfl; exact h (by decide)
  rw [fieldsRow, if_neg (by decide), if_neg hne]
  clear hne
  revert code; decide

theorem codeField_eq_ofNat {rec : Record} {n : Nat} (h : (codeField rec).toNat = n) :
    codeField rec = BitVec.ofNat 6 n := by
  rw [← h, BitVec.ofNat_toNat, BitVec.setWidth_eq]

/-- Section 8: each way through the decoder ends in the row that its guards select. -/
theorem DecodeCase.row_eq {rec : Record} {i : Instr} (h : DecodeCase rec i) :
    i.row = fieldsRow (commandField rec) (codeField rec) (repeatField rec) := by
  cases h with
  | notCdg hcommand => exact emptyNotcdgRow_row _ _ _ hcommand
  | reserved hcommand hcode => rw [hcommand, emptyReservedRow_row _ _ hcode]
  | repeated hcommand hcode hrepeat => rw [hcommand, codeField_eq_ofNat hcode, emptyRepeatRow_row _ hrepeat]; rfl
  | memoryPreset hcommand hcode hrepeat => rw [hcommand, codeField_eq_ofNat hcode, hrepeat]; rfl
  | _ hcommand hcode => rw [hcommand, codeField_eq_ofNat hcode]; rfl

theorem row_decode (rec : Record) :
    (decode rec).row = fieldsRow (commandField rec) (codeField rec) (repeatField rec) :=
  (decodeCase_decode rec).row_eq

/-- Section 8: a row accepts a record exactly when the fields that the row tests have its values. -/
theorem fieldsRow_accepts_iff (command code : BitVec 6) (count : BitVec 4) (rec : Record) :
    (fieldsRow command code count).accepts (tableKey rec) = true ↔
      commandField rec = command ∧ (command = 9 → codeField rec = code ∧ (code = 1 → repeatField rec = count)) := by
  have hcommand : commandField rec = command ↔ rec[0] &&& 0x3F = command.setWidth 8 := low6_eq_iff _ _
  have hcode : codeField rec = code ↔ rec[1] &&& 0x3F = code.setWidth 8 := low6_eq_iff _ _
  have hcount : repeatField rec = count ↔ rec[5] &&& 0x0F = count.setWidth 8 := low4_eq_iff _ _
  rw [hcommand, hcode, hcount, fieldsRow]
  split
  next hne => simpa [accepts_sixBytes_iff] using fun _ h => absurd h hne
  next hnine =>
    obtain rfl : command = 9 := not_not.1 hnine
    split
    next hone => subst hone; simp [accepts_sixBytes_iff]
    next hne => simpa [accepts_sixBytes_iff] using fun _ _ h => absurd h hne

/-- The fields that a row does not test do not name another row. -/
theorem fieldsRow_congr {command code command' code' : BitVec 6} {count count' : BitVec 4}
    (hcommand : command = command') (hrest : command' = 9 → code = code' ∧ (code' = 1 → count = count')) :
    fieldsRow command code count = fieldsRow command' code' count' := by
  subst hcommand
  by_cases hnine : command = 9
  · obtain ⟨rfl, hcount⟩ := hrest hnine
    by_cases hone : code = 1
    · rw [hcount hone]
    · rw [fieldsRow, fieldsRow, if_neg hone, if_neg hone]
  · rw [fieldsRow, fieldsRow, if_pos hnine, if_pos hnine]

/-- Settles O8: the row of an instruction is the one that the fields of its canonical record select (O7), and such a row
accepts exactly the records whose own fields select it. -/
theorem recordMatchesExactlyItsTableRow : Obligations.RecordMatchesExactlyItsTableRow := by
  intro rec i
  rw [← decodeInvertsEncode i, row_decode, row_decode]
  constructor
  · intro haccepts
    obtain ⟨hcommand, hrest⟩ := (fieldsRow_accepts_iff ..).1 haccepts
    exact fieldsRow_congr hcommand hrest
  · intro hrow
    rw [← hrow, fieldsRow_accepts_iff]
    exact ⟨rfl, fun _ => ⟨rfl, fun _ => rfl⟩⟩

/-! ### Table words -/

theorem tableWordBytes_length {nbits w : Nat} {bytes : List Byte} (h : tableWordBytes nbits w = some bytes) :
    bytes.length = 24 := by
  rw [tableWordBytes, Option.ite_none_right_eq_some, Option.some.injEq] at h
  obtain ⟨-, rfl⟩ := h
  simp

theorem decodeBytes_of_length {bytes : List Byte} (h : bytes.length = 24) :
    decodeBytes bytes = .ok (decode ⟨⟨bytes⟩, by simpa using h⟩) := dif_pos h

/-- Settles O12, by the two branches of `decodeBytes`. -/
theorem onlyTwentyFourBytesAreARecord : Obligations.OnlyTwentyFourBytesAreARecord :=
  fun _ => ⟨fun h => dif_neg h, decodeBytes_of_length⟩

/-- Log 5: the record of a table word's bytes. -/
def wordRecord (bytes : List Byte) : Record := tabulate fun k => bytes.getD k.val 0

theorem decodeTableWord_of_bytes {nbits w : Nat} {bytes : List Byte} (h : tableWordBytes nbits w = some bytes) :
    decodeTableWord nbits w = some (decode (wordRecord bytes)) := by
  have hlength := tableWordBytes_length h
  have hrecord : (⟨⟨bytes⟩, by simpa using hlength⟩ : Record) = wordRecord bytes := by
    apply Vector.ext
    intro k hk
    simp [wordRecord, hlength]
  simp only [decodeTableWord, h, decodeBytes_of_length hlength, hrecord]
  rfl

theorem sixBytes_extractLsb' (w : BitVec 48) :
    sixBytes (w.extractLsb' 40 8) (w.extractLsb' 32 8) (w.extractLsb' 24 8) (w.extractLsb' 16 8) (w.extractLsb' 8 8)
      (w.extractLsb' 0 8) = w := by
  have hjoin (start len : Nat) :
      w.extractLsb' (start + 8) len ++ w.extractLsb' start 8 = w.extractLsb' start (len + 8) :=
    BitVec.extractLsb'_append_extractLsb'_eq_extractLsb' rfl
  rw [sixBytes, hjoin 32, hjoin 24, hjoin 16, hjoin 8, hjoin 0]
  exact BitVec.extractLsb'_eq_self

/-- Section 8: the key of a 48-bit word's record is the word. -/
theorem exists_record_of_word (w : BitVec 48) :
    ∃ rec, decodeTableWord 48 w.toNat = some (decode rec) ∧ tableKey rec = w :=
  ⟨_, decodeTableWord_of_bytes (if_pos (by decide)), sixBytes_extractLsb' w⟩

/-- A row's match has no bit outside its mask: the row accepts the canonical record of its instruction. -/
theorem pattern_and_mask (i : Instr) : i.row.pattern &&& i.row.mask = i.row.pattern := by
  have haccepts : tableKey (encode i) &&& i.row.mask = i.row.pattern :=
    beq_iff_eq.1 ((recordMatchesExactlyItsTableRow (encode i) i).2 (congrArg Instr.row (decodeInvertsEncode i)))
  rw [← haccepts, BitVec.and_assoc, BitVec.and_self]

/-- Settles O9: the record of the row's match has the match as its key, which the row accepts, so the record decodes to
the row (O8). -/
theorem everyTableRowIsDecoded : Obligations.EveryTableRowIsDecoded := by
  intro i
  obtain ⟨rec, hdecode, hkey⟩ := exists_record_of_word i.row.pattern
  refine ⟨decode rec, hdecode, (recordMatchesExactlyItsTableRow rec i).1 ?_⟩
  rw [TableRow.accepts, hkey, pattern_and_mask, beq_self_eq_true]

/-- Settles O14, by evaluating the decoder on each of the nine words. -/
theorem vectorWordsDecode : Obligations.VectorWordsDecode :=
  ⟨rfl, rfl, rfl, rfl, rfl, rfl, rfl, rfl, rfl⟩

/-- Settles O20: the word's record is both what `decodeTableWord` decodes and what is supplied as the next event. -/
theorem suppliedWordIsExecutedNext : Obligations.SuppliedWordIsExecutedNext := by
  intro s nbits w i h
  match hbytes : tableWordBytes nbits w with
  | none => simp [decodeTableWord, hbytes] at h
  | some bytes =>
    rw [decodeTableWord_of_bytes hbytes, Option.some.injEq] at h
    have hsupply : s.withFetchWord nbits w = s.supply (wordRecord bytes) := by
      simp only [State.withFetchWord, hbytes]
      rfl
    rw [hsupply, step_of_record (supply_input s _), h]
    rfl

end Sys2Proof.Proofs
end

section
/-! The widths of the decoder's output (spec/30_encoding.md R52, R53): every typed instruction is that of a row, and every
well-formed instruction in plain numbers is a typed instruction written out, so the decoder puts it out for the canonical
record (R62) of its row. -/

namespace Sys2Proof.Proofs

open Sys2Proof.Machine Sys2Proof.Laws

/-! ### The row of a typed instruction -/

/-- The row of a typed instruction; of Empty, the one of command 0 (R62). -/
def rowOfTyped : TypedInstr → Instr
  | .empty => .emptyNotcdg00
  | .memoryPreset color => .memoryPreset color
  | .borderPreset color => .borderPreset color
  | .tileBlock color0 color1 row column bits => .tileBlock color0 color1 row column bits
  | .tileBlockXor color0 color1 row column bits => .tileBlockXor color0 color1 row column bits
  | .loadColorsLow entries => .loadColorsLow entries
  | .loadColorsHigh entries => .loadColorsHigh entries
  | .scrollPreset color hCmd hOff vCmd vOff => .scrollPreset color hCmd hOff vCmd vOff
  | .scrollCopy color hCmd hOff vCmd vOff => .scrollCopy color hCmd hOff vCmd vOff
  | .defineTransparent color => .defineTransparent color

theorem typed_rowOfTyped (t : TypedInstr) : (rowOfTyped t).typed = t := by
  cases t <;> rfl

/-- The nine other variants are each the typed instruction of one row (R52). -/
theorem eq_rowOfTyped_of_typed {i : Instr} {t : TypedInstr} (h : i.typed = t) (ht : t ≠ .empty) : i = rowOfTyped t := by
  subst h
  cases i with
  | memoryPreset | borderPreset | tileBlock | tileBlockXor | loadColorsLow | loadColorsHigh | scrollPreset | scrollCopy
  | defineTransparent => rfl
  | _ => exact absurd rfl ht

/-! ### Numbers that fit -/

theorem exists_toNat_eq_of_fits {width n : Nat} (h : fits width n = true) : ∃ v : BitVec width, v.toNat = n :=
  ⟨BitVec.ofNat width n, Nat.mod_eq_of_lt (of_decide_eq_true h)⟩

theorem exists_vector_of_list {α β : Type} (f : α → β) {n : Nat} {l : List β} (hlength : l.length = n)
    (h : ∀ b ∈ l, ∃ a, f a = b) : ∃ v : Vector α n, v.toList.map f = l := by
  obtain ⟨as, rfl⟩ : l ∈ Set.range (List.map f) := by
    rw [Set.range_list_map]
    exact h
  rw [List.length_map] at hlength
  exact ⟨⟨⟨as⟩, hlength⟩, rfl⟩

theorem exists_entries_of_fit {entries : List (Nat × Nat × Nat)} (h : entriesFit entries = true) :
    ∃ v : Vector Rgb 8, v.toList.map Rgb.raw = entries := by
  simp only [entriesFit, Bool.and_eq_true, beq_iff_eq, List.all_eq_true] at h
  obtain ⟨hlength, hchannels⟩ := h
  refine exists_vector_of_list Rgb.raw hlength fun e he => ?_
  obtain ⟨⟨hr, hg⟩, hb⟩ := hchannels e he
  obtain ⟨r, hr⟩ := exists_toNat_eq_of_fits hr
  obtain ⟨g, hg⟩ := exists_toNat_eq_of_fits hg
  obtain ⟨b, hb⟩ := exists_toNat_eq_of_fits hb
  exact ⟨⟨r, g, b⟩, by rw [Rgb.raw, hr, hg, hb]⟩

theorem exists_tile_of_fits {color0 color1 row column : Nat} {bits : List Nat}
    (h : tileFits color0 color1 row column bits = true) :
    ∃ (c0 c1 : ColorIndex) (r : BitVec 5) (c : BitVec 6) (v : Vector (BitVec 6) 12),
      c0.toNat = color0 ∧ c1.toNat = color1 ∧ r.toNat = row ∧ c.toNat = column ∧ v.toList.map BitVec.toNat = bits := by
  simp only [tileFits, Bool.and_eq_true, beq_iff_eq, List.all_eq_true] at h
  obtain ⟨⟨⟨⟨⟨hcolor0, hcolor1⟩, hrow⟩, hcolumn⟩, hlength⟩, hbits⟩ := h
  obtain ⟨c0, hc0⟩ := exists_toNat_eq_of_fits hcolor0
  obtain ⟨c1, hc1⟩ := exists_toNat_eq_of_fits hcolor1
  obtain ⟨r, hr⟩ := exists_toNat_eq_of_fits hrow
  obtain ⟨c, hc⟩ := exists_toNat_eq_of_fits hcolumn
  obtain ⟨v, hv⟩ := exists_vector_of_list BitVec.toNat hlength fun n hn => exists_toNat_eq_of_fits (hbits n hn)
  exact ⟨c0, c1, r, c, v, hc0, hc1, hr, hc, hv⟩

theorem exists_scroll_of_fits {color hCmd hOff vCmd vOff : Nat} (h : scrollFits color hCmd hOff vCmd vOff = true) :
    ∃ (c : ColorIndex) (hc : BitVec 2) (ho : BitVec 3) (vc : BitVec 2) (vo : BitVec 4),
      c.toNat = color ∧ hc.toNat = hCmd ∧ ho.toNat = hOff ∧ vc.toNat = vCmd ∧ vo.toNat = vOff := by
  simp only [scrollFits, Bool.and_eq_true] at h
  obtain ⟨⟨⟨⟨hcolor, hhCmd⟩, hhOff⟩, hvCmd⟩, hvOff⟩ := h
  obtain ⟨c, hcolor⟩ := exists_toNat_eq_of_fits hcolor
  obtain ⟨hc, hhCmd⟩ := exists_toNat_eq_of_fits hhCmd
  obtain ⟨ho, hhOff⟩ := exists_toNat_eq_of_fits hhOff
  obtain ⟨vc, hvCmd⟩ := exists_toNat_eq_of_fits hvCmd
  obtain ⟨vo, hvOff⟩ := exists_toNat_eq_of_fits hvOff
  exact ⟨c, hc, ho, vc, vo, hcolor, hhCmd, hhOff, hvCmd, hvOff⟩

/-- R53: the widths are all that well-formedness asks for. -/
theorem exists_typed_of_wellFormed {r : RawInstr} (h : r.wellFormed = true) : ∃ t : TypedInstr, t.raw = r := by
  cases r with
  | empty => exact ⟨.empty, rfl⟩
  | memoryPreset color =>
    obtain ⟨c, rfl⟩ := exists_toNat_eq_of_fits h
    exact ⟨.memoryPreset c, rfl⟩
  | borderPreset color =>
    obtain ⟨c, rfl⟩ := exists_toNat_eq_of_fits h
    exact ⟨.borderPreset c, rfl⟩
  | defineTransparent color =>
    obtain ⟨c, rfl⟩ := exists_toNat_eq_of_fits h
    exact ⟨.defineTransparent c, rfl⟩
  | loadColorsLow entries =>
    obtain ⟨v, rfl⟩ := exists_entries_of_fit h
    exact ⟨.loadColorsLow v, rfl⟩
  | loadColorsHigh entries =>
    obtain ⟨v, rfl⟩ := exists_entries_of_fit h
    exact ⟨.loadColorsHigh v, rfl⟩
  | tileBlock color0 color1 row column bits =>
    obtain ⟨c0, c1, r, c, v, rfl, rfl, rfl, rfl, rfl⟩ := exists_tile_of_fits h
    exact ⟨.tileBlock c0 c1 r c v, rfl⟩
  | tileBlockXor color0 color1 row column bits =>
    obtain ⟨c0, c1, r, c, v, rfl, rfl, rfl, rfl, rfl⟩ := exists_tile_of_fits h
    exact ⟨.tileBlockXor c0 c1 r c v, rfl⟩
  | scrollPreset color hCmd hOff vCmd vOff =>
    obtain ⟨c, hc, ho, vc, vo, rfl, rfl, rfl, rfl, rfl⟩ := exists_scroll_of_fits h
    exact ⟨.scrollPreset c hc ho vc vo, rfl⟩
  | scrollCopy color hCmd hOff vCmd vOff =>
    obtain ⟨c, hc, ho, vc, vo, rfl, rfl, rfl, rfl, rfl⟩ := exists_scroll_of_fits h
    exact ⟨.scrollCopy c hc ho vc vo, rfl⟩

/-- Settles O11: one way every typed instruction has its widths, the other way the canonical record of the row of a
well-formed instruction decodes to it (O7). -/
theorem decodedFieldsHaveExactlyTheirWidths : Obligations.DecodedFieldsHaveExactlyTheirWidths := by
  intro r
  constructor
  · rintro ⟨rec, rfl⟩
    exact typedInstr_raw_wellFormed _
  · intro h
    obtain ⟨t, rfl⟩ := exists_typed_of_wellFormed h
    exact ⟨encode (rowOfTyped t), by rw [decodeInvertsEncode, typed_rowOfTyped]⟩

end Sys2Proof.Proofs
end

section
/-! The payload bits that matter within an instruction code (spec/30_encoding.md R58): for each defined code, two records
agree in the listed bits exactly when the fields of that code are the same in both. -/

namespace Sys2Proof.Proofs

open Sys2Proof.Machine Sys2Proof.Laws

/-! ### Fields and masked bytes -/

theorem low4_inj_iff (a b : Byte) : low4 a = low4 b ↔ a &&& 0x0F = b &&& 0x0F := by
  rw [low4_eq_iff, (low4_eq_iff b (low4 b)).1 rfl]

theorem low6_inj_iff (a b : Byte) : low6 a = low6 b ↔ a &&& 0x3F = b &&& 0x3F := by
  rw [low6_eq_iff, (low6_eq_iff b (low6 b)).1 rfl]

theorem low5_setWidth_eq_and (b : Byte) : (low5 b).setWidth 8 = b &&& 0x1F := by
  revert b; decide

theorem low5_inj_iff (a b : Byte) : low5 a = low5 b ↔ a &&& 0x1F = b &&& 0x1F := by
  constructor
  · intro h
    rw [← low5_setWidth_eq_and, h, low5_setWidth_eq_and]
  · exact congrArg (BitVec.setWidth 5)

/-- R50: without bit 3 and the noise, a horizontal field is its command and its offset. -/
theorem hField_eq (b : Byte) : b &&& (0x37 : Byte) = ((scrollCmd b).setWidth 8 <<< 4) ||| (hOffOf b).setWidth 8 := by
  revert b; decide

/-- R50: without the noise, a vertical field is its command and its offset. -/
theorem vField_eq (b : Byte) : b &&& (0x3F : Byte) = ((scrollCmd b).setWidth 8 <<< 4) ||| (vOffOf b).setWidth 8 := by
  revert b; decide

theorem hField_inj_iff (a b : Byte) : scrollCmd a = scrollCmd b ∧ hOffOf a = hOffOf b ↔ a &&& 0x37 = b &&& 0x37 := by
  constructor
  · rintro ⟨hcmd, hoff⟩
    rw [hField_eq, hField_eq, hcmd, hoff]
  · intro h
    rw [hField_eq, hField_eq] at h
    exact ⟨by rw [← scrollCmd_hField (scrollCmd a) (hOffOf a), h, scrollCmd_hField],
      by rw [← hOffOf_hField (scrollCmd a) (hOffOf a), h, hOffOf_hField]⟩

theorem vField_inj_iff (a b : Byte) : scrollCmd a = scrollCmd b ∧ vOffOf a = vOffOf b ↔ a &&& 0x3F = b &&& 0x3F := by
  constructor
  · rintro ⟨hcmd, hoff⟩
    rw [vField_eq, vField_eq, hcmd, hoff]
  · intro h
    rw [vField_eq, vField_eq] at h
    exact ⟨by rw [← scrollCmd_vField (scrollCmd a) (vOffOf a), h, scrollCmd_vField],
      by rw [← vOffOf_vField (scrollCmd a) (vOffOf a), h, vOffOf_vField]⟩

/-- R84: the channels keep every bit that the mask of R49 leaves. -/
theorem rgb_colorWord_inj_iff (hi lo hi' lo' : Byte) :
    rgb (colorWord hi lo) = rgb (colorWord hi' lo') ↔ hi &&& 0x3F = hi' &&& 0x3F ∧ lo &&& 0x3F = lo' &&& 0x3F := by
  constructor
  · intro h
    obtain ⟨hr, hg, hb⟩ := channelsFromTheTwoBytes hi lo
    obtain ⟨hr', hg', hb'⟩ := channelsFromTheTwoBytes hi' lo'
    rw [h] at hr hg hb
    simp only [← BitVec.toNat_inj, and_63_toNat]
    omega
  · rintro ⟨hhi, hlo⟩
    rw [colorWord_eq_append, colorWord_eq_append, hhi, hlo]

/-! ### The listed bits of each code -/

theorem agree_presetBits_iff (a b : Record) :
    (∀ k, pay a k &&& relevantBits 1#6 k = pay b k &&& relevantBits 1#6 k) ↔
      colorField a = colorField b ∧ repeatField a = repeatField b := by
  simp only [colorField, repeatField, low4_inj_iff]
  simp [Fin.forall_fin_succ, relevantBits]

theorem agree_colorBits_iff (a b : Record) :
    (∀ k, pay a k &&& relevantBits 2#6 k = pay b k &&& relevantBits 2#6 k) ↔ colorField a = colorField b := by
  simp only [colorField, low4_inj_iff]
  simp [Fin.forall_fin_succ, relevantBits]

theorem tabulate_inj_iff {α : Type} {n : Nat} (f g : Fin n → α) : tabulate f = tabulate g ↔ ∀ k, f k = g k := by
  constructor
  · intro h k
    simpa using congrArg (fun v => v[k.val]) h
  · intro h
    exact congrArg tabulate (funext h)

theorem agree_tileBits_iff (a b : Record) :
    (∀ k, pay a k &&& relevantBits 6#6 k = pay b k &&& relevantBits 6#6 k) ↔
      colorField a = colorField b ∧ color1Field a = color1Field b ∧ rowField a = rowField b ∧
        columnField a = columnField b ∧ bitsField a = bitsField b := by
  simp only [colorField, color1Field, rowField, columnField, bitsField, tabulate_inj_iff, low4_inj_iff,
    low5_inj_iff, low6_inj_iff]
  simp [Fin.forall_fin_succ, relevantBits]

theorem agree_entriesBits_iff (a b : Record) :
    (∀ k, pay a k &&& relevantBits 30#6 k = pay b k &&& relevantBits 30#6 k) ↔ entriesField a = entriesField b := by
  simp only [entriesField, tabulate_inj_iff, rgb_colorWord_inj_iff]
  simp [Fin.forall_fin_succ, relevantBits, and_assoc]

theorem agree_scrollBits_iff (a b : Record) :
    (∀ k, pay a k &&& relevantBits 20#6 k = pay b k &&& relevantBits 20#6 k) ↔
      colorField a = colorField b ∧ hCmdField a = hCmdField b ∧ hOffField a = hOffField b ∧
        vCmdField a = vCmdField b ∧ vOffField a = vOffField b := by
  have hfields : (hCmdField a = hCmdField b ∧ hOffField a = hOffField b ↔ pay a 1 &&& 0x37 = pay b 1 &&& 0x37) ∧
      (vCmdField a = vCmdField b ∧ vOffField a = vOffField b ↔ pay a 2 &&& 0x3F = pay b 2 &&& 0x3F) :=
    ⟨hField_inj_iff _ _, vField_inj_iff _ _⟩
  rw [← and_assoc (a := hCmdField a = hCmdField b), hfields.1, hfields.2, colorField, colorField, low4_inj_iff]
  simp [Fin.forall_fin_succ, relevantBits]

/-- Settles O10: within each code the listed bits are its fields, and the fields are the instruction. -/
theorem exactlyTheListedBitsMatter : Obligations.ExactlyTheListedBitsMatter := by
  intro a b ha hb hcode
  have hcases := decodeCase_decode a
  generalize decode a = i at hcases ⊢
  cases hcases with
  | notCdg hcommand => exact absurd ha hcommand
  | reserved _ hn =>
    rw [decode_of_reserved hb (hcode ▸ hn), hcode]
    exact ⟨fun _ => rfl, fun hne => absurd (emptyReservedRow_typed _) hne⟩
  | repeated _ hn hrepeat =>
    rw [codeField_eq_ofNat hn, agree_presetBits_iff, decode_of_code_one hb (hcode ▸ hn)]
    refine ⟨fun ⟨_, heq⟩ => ?_, fun hne => absurd (emptyRepeatRow_typed _) hne⟩
    rw [← heq, if_neg hrepeat]
  | memoryPreset _ hn hrepeat =>
    rw [codeField_eq_ofNat hn, agree_presetBits_iff, decode_of_code_one hb (hcode ▸ hn), hrepeat]
    by_cases hrepeat' : repeatField b = 0
    · rw [if_pos hrepeat', hrepeat', Instr.memoryPreset.injEq]
      exact ⟨And.left, fun _ h => ⟨h, rfl⟩⟩
    · rw [if_neg hrepeat']
      refine ⟨fun h => absurd h.2.symm hrepeat', fun hne heq => ?_⟩
      rw [heq] at hne
      exact absurd (emptyRepeatRow_typed _) hne
  | borderPreset _ hn =>
    rw [codeField_eq_ofNat hn, (DecodeCase.borderPreset hb (hcode ▸ hn)).decode_eq, Instr.borderPreset.injEq]
    exact ⟨(agree_colorBits_iff a b).1, fun _ => (agree_colorBits_iff a b).2⟩
  | defineTransparent _ hn =>
    rw [codeField_eq_ofNat hn, (DecodeCase.defineTransparent hb (hcode ▸ hn)).decode_eq, Instr.defineTransparent.injEq]
    exact ⟨(agree_colorBits_iff a b).1, fun _ => (agree_colorBits_iff a b).2⟩
  | tileBlock _ hn =>
    rw [codeField_eq_ofNat hn, (DecodeCase.tileBlock hb (hcode ▸ hn)).decode_eq, Instr.tileBlock.injEq]
    exact ⟨(agree_tileBits_iff a b).1, fun _ => (agree_tileBits_iff a b).2⟩
  | tileBlockXor _ hn =>
    rw [codeField_eq_ofNat hn, (DecodeCase.tileBlockXor hb (hcode ▸ hn)).decode_eq, Instr.tileBlockXor.injEq]
    exact ⟨(agree_tileBits_iff a b).1, fun _ => (agree_tileBits_iff a b).2⟩
  | loadColorsLow _ hn =>
    rw [codeField_eq_ofNat hn, (DecodeCase.loadColorsLow hb (hcode ▸ hn)).decode_eq, Instr.loadColorsLow.injEq]
    exact ⟨(agree_entriesBits_iff a b).1, fun _ => (agree_entriesBits_iff a b).2⟩
  | loadColorsHigh _ hn =>
    rw [codeField_eq_ofNat hn, (DecodeCase.loadColorsHigh hb (hcode ▸ hn)).decode_eq, Instr.loadColorsHigh.injEq]
    exact ⟨(agree_entriesBits_iff a b).1, fun _ => (agree_entriesBits_iff a b).2⟩
  | scrollPreset _ hn =>
    rw [codeField_eq_ofNat hn, (DecodeCase.scrollPreset hb (hcode ▸ hn)).decode_eq, Instr.scrollPreset.injEq]
    exact ⟨(agree_scrollBits_iff a b).1, fun _ => (agree_scrollBits_iff a b).2⟩
  | scrollCopy _ hn =>
    rw [codeField_eq_ofNat hn, (DecodeCase.scrollCopy hb (hcode ▸ hn)).decode_eq, Instr.scrollCopy.injEq]
    exact ⟨(agree_scrollBits_iff a b).1, fun _ => (agree_scrollBits_iff a b).2⟩

end Sys2Proof.Proofs
end

section
/-! The step and the run from outside (spec/00_scope.md R8, spec/60_exceptions.md section 7, spec/70_reset_and_hazards.md
R116): every step returns, puts out one result for a record and none otherwise, and nothing but the Display State and the
instruction decides what comes next. -/

namespace Sys2Proof.Proofs

open Sys2Proof.Machine Sys2Proof.Laws

/-! ### Reset and the idle step -/

theorem step_of_nil {s : State} (h : s.input = []) : step s = .next s := by
  simp [step, h]

theorem step_of_reset {s : State} {rest : List Event} (h : s.input = .reset :: rest) :
    step s = .next (s.takeReset rest) := by
  simp [step, h]

/-- Settles O16: the reset Display State is given cell by cell and entry by entry. -/
theorem resetContentsAreTheOpenParameters : Obligations.ResetContentsAreTheOpenParameters :=
  ⟨get_ofCells Config.fbReset, fun i => getElem_tabulate Config.ctReset i.val i.isLt⟩

/-- Settles O17: `takeReset` names the three fields. -/
theorem resetInputRestoresTheDisplay : Obligations.ResetInputRestoresTheDisplay :=
  fun _ _ => step_of_reset

/-- Settles O18: the step with nothing waiting is `hold`. -/
theorem blockHoldsItsStateBetweenRecords : Obligations.BlockHoldsItsStateBetweenRecords :=
  fun _ => step_of_nil

/-- Settles O54: no result has been put out. -/
theorem statusInvariantHoldsAtReset : Obligations.StatusInvariantHoldsAtReset :=
  fun _ hmem => absurd hmem List.not_mem_nil

/-! ### Every step -/

/-- Settles O22: `emit` written out. -/
theorem execIsApplyOnTheDisplay : Obligations.ExecIsApplyOnTheDisplay := exec_eq_next_emit_apply

/-- Settles O21, by what waits next. -/
theorem everyStepReturns : Obligations.EveryStepReturns := by
  intro s
  match h : s.input with
  | [] => exact ⟨_, step_of_nil h⟩
  | .reset :: _ => exact ⟨_, step_of_reset h⟩
  | .record rec :: _ => exact ⟨_, (step_of_record h).trans (exec_eq_next_emit_apply (decode rec) _)⟩

/-- Settles O24, by the cases of a step: only a record leaves the input for a result. -/
theorem oneTypedInstructionPerRecord : Obligations.OneTypedInstructionPerRecord := by
  intro s t hstep
  obtain ⟨hin, rfl⟩ | ⟨rest, hin, rfl⟩ | ⟨rec, rest, hin, rfl⟩ := step_cases hstep
  · simp [hin]
  · simp [hin, pendingRecords]
  · have hpending : pendingRecords s.input = pendingRecords rest + 1 := by rw [hin]; rfl
    refine ⟨?_, fun rec' rest' hin' => ?_, fun hnone => absurd hin (hnone rec rest)⟩
    · rw [hpending, emit_results, emit_input, takeRecord_results, takeRecord_input, List.length_append,
        List.length_singleton]
      omega
    · obtain ⟨rfl, rfl⟩ : rec = rec' ∧ rest = rest' := by simpa [hin] using hin'
      exact ⟨_, rfl⟩

/-- R102, R103: an instruction in the grid succeeds. -/
theorem apply_status_of_inGrid {t : TypedInstr} (h : t.InGrid) (d : Display) : (apply t d).1 = .ok := by
  match hstatus : (apply t d).1 with
  | .ok => rfl
  | .outOfRange => exact absurd h ((apply_status_eq_outOfRange_iff t d).1 hstatus)

/-- Settles O55, by the cases of a step: the one new status is that of an instruction in the grid. -/
theorem inGridRecordsKeepARunSafe : Obligations.InGridRecordsKeepARunSafe := by
  intro s t hs hgrid hstep
  obtain ⟨-, rfl⟩ | ⟨rest, -, rfl⟩ | ⟨rec, rest, hin, rfl⟩ := step_cases hstep
  · exact hs
  · exact hs
  · intro r hr
    rw [emit_results, takeRecord_results, List.mem_append, List.mem_singleton] at hr
    obtain hbefore | rfl := hr
    · exact hs r hbefore
    · exact apply_status_of_inGrid (hgrid rec rest hin) s.display

/-- Settles O56: the result is the typed instruction and the status that `apply` answers on the common Display State. -/
theorem onlyTheDisplayDecidesTheDisplay : Obligations.OnlyTheDisplayDecidesTheDisplay := by
  intro i s s' t t' hdisplay hexec hexec'
  rw [exec_eq_next_emit_apply, Host.Outcome.next.injEq] at hexec hexec'
  subst hexec hexec'
  rw [hdisplay]
  exact ⟨rfl, _, rfl, rfl⟩

end Sys2Proof.Proofs
end

section
/-! Several instructions in a row: they run through, and the Display State after them is `apply` folded over their typed
instructions. -/

namespace Sys2Proof.Proofs

open Sys2Proof.Machine Sys2Proof.Laws

/-- The Display State that `apply` leaves behind (R2). -/
def displayAfter (i : Instr) (d : Display) : Display := (apply i.typed d).2

/-- The Display State after instructions in a row. -/
def displayAfterAll (is : List Instr) (d : Display) : Display := is.foldl (fun d i => displayAfter i d) d

@[simp] theorem displayAfterAll_nil (d : Display) : displayAfterAll [] d = d := rfl

@[simp] theorem displayAfterAll_cons (i : Instr) (is : List Instr) (d : Display) :
    displayAfterAll (i :: is) d = displayAfterAll is (displayAfter i d) := rfl

theorem execAll_cons (i : Instr) (is : List Instr) (s : State) :
    execAll (i :: is) s = execAll is (s.emit i.typed (apply i.typed s.display)) := by
  rw [execAll, exec_eq_next_emit_apply]

theorem exists_exec_display (i : Instr) (s : State) : ∃ t, exec i s = .next t ∧ t.display = displayAfter i s.display :=
  ⟨_, exec_eq_next_emit_apply i s, rfl⟩

/-- R2, R8: instructions in a row run through. -/
theorem exists_execAll_display (is : List Instr) (s : State) :
    ∃ t, execAll is s = .next t ∧ t.display = displayAfterAll is s.display := by
  induction is generalizing s with
  | nil => exact ⟨s, rfl, rfl⟩
  | cons i is ih =>
    rw [execAll_cons]
    exact ih _

/-- Two runs that `apply` takes to the same Display State. -/
theorem exists_execAll_display_eq {is js : List Instr} {s s' : State}
    (h : displayAfterAll is s.display = displayAfterAll js s'.display) :
    ∃ t u, execAll is s = .next t ∧ execAll js s' = .next u ∧ t.display = u.display := by
  obtain ⟨t, ht, htd⟩ := exists_execAll_display is s
  obtain ⟨u, hu, hud⟩ := exists_execAll_display js s'
  exact ⟨t, u, ht, hu, by rw [htd, hud, h]⟩

/-- One instruction and two runs that `apply` takes to the same Display State. -/
theorem exists_exec_execAll_display_eq {i : Instr} {is js : List Instr} {s : State}
    (his : displayAfter i s.display = displayAfterAll is s.display)
    (hjs : displayAfter i s.display = displayAfterAll js s.display) :
    ∃ t u v, exec i s = .next t ∧ execAll is s = .next u ∧ execAll js s = .next v ∧ t.display = u.display ∧
      t.display = v.display := by
  obtain ⟨t, ht, htd⟩ := exists_exec_display i s
  obtain ⟨u, hu, hud⟩ := exists_execAll_display is s
  obtain ⟨v, hv, hvd⟩ := exists_execAll_display js s
  exact ⟨t, u, v, ht, hu, hv, by rw [htd, hud, his], by rw [htd, hvd, hjs]⟩

/-- A run that `apply` takes back to the Display State it began with. -/
theorem exists_execAll_display_of_eq {is : List Instr} {s : State} (h : displayAfterAll is s.display = s.display) :
    ∃ t, execAll is s = .next t ∧ t.display = s.display := by
  obtain ⟨t, ht, htd⟩ := exists_execAll_display is s
  exact ⟨t, ht, htd.trans h⟩

/-- Settles O57: the rejected tile leaves the Display State that the instruction after it works on. -/
theorem outOfRangeIsNotSticky : Obligations.OutOfRangeIsNotSticky := by
  intro bad i s hbad
  have hrun : execAll [bad, i] s =
      .next ((s.emit bad.typed (.outOfRange, s.display)).emit i.typed (apply i.typed s.display)) := by
    rw [execAll_cons, apply_of_not_inGrid hbad, execAll_cons]
    rfl
  exact ⟨_, _, _, hrun, exec_eq_next_emit_apply i s, rfl, by simp, rfl⟩

end Sys2Proof.Proofs
end

section
/-! The scrolls (spec/44_scroll.md): the picture after one scroll (R94, R95), the command codes (R50, R57), and the laws of
several scrolls in a row (R96, R98, R99), which all rest on what two shifts and two rotations make together. -/

namespace Sys2Proof.Proofs

open Sys2Proof.Machine Sys2Proof.Laws

/-! ### One scroll -/

@[simp] theorem scrollDx_zero : scrollDx 0#2 = 0 := rfl
@[simp] theorem scrollDx_one : scrollDx 1#2 = 6 := rfl
@[simp] theorem scrollDx_two : scrollDx 2#2 = -6 := rfl
@[simp] theorem scrollDx_three : scrollDx 3#2 = 0 := rfl

@[simp] theorem scrollDy_zero : scrollDy 0#2 = 0 := rfl
@[simp] theorem scrollDy_one : scrollDy 1#2 = 12 := rfl
@[simp] theorem scrollDy_two : scrollDy 2#2 = -12 := rfl
@[simp] theorem scrollDy_three : scrollDy 3#2 = 0 := rfl

/-- Settles O35: the new framebuffer is the shift of `apply_scrollPreset`, read cell by cell where the source lies in the
grid and where it does not. -/
theorem scrollPresetShiftsAndFills : Obligations.ScrollPresetShiftsAndFills := by
  intro c hCmd hOff vCmd vOff s
  refine ⟨s.display.framebuffer.shift (scrollDy vCmd) (scrollDx hCmd) c,
    exec_of_apply_eq (apply_scrollPreset c hCmd hOff vCmd vOff s.display), ?_, ?_⟩
  · exact fun y sy x sx => get_shift_inside _ _ _ c y sy x sx
  · intro y x hout
    exact get_shift_outside _ _ _ c y x fun ⟨hy, hy', hx, hx'⟩ => hout ⟨hx, hx', hy, hy'⟩

/-- Settles O36: the new framebuffer is the rotation of `apply_scrollCopy`, whose wrapped source is the one cell with the
given numbers. -/
theorem scrollCopyRotates : Obligations.ScrollCopyRotates := by
  intro c hCmd hOff vCmd vOff s
  refine ⟨s.display.framebuffer.rotate (scrollDy vCmd) (scrollDx hCmd),
    exec_of_apply_eq (apply_scrollCopy c hCmd hOff vCmd vOff s.display), ?_⟩
  intro y sy x sx hy hx
  have hrow : wrapRow (y.val - scrollDy vCmd) = sy := wrapRow_of_lt _ sy hy.symm
  have hcolumn : wrapColumn (x.val - scrollDx hCmd) = sx := wrapColumn_of_lt _ sx hx.symm
  rw [get_rotate, hrow, hcolumn]

/-- R50: masking before the shift or not, the command code is bits 5 and 4. -/
theorem scrollCmd_eq (b : Byte) : scrollCmd b = (b >>> 4).setWidth 2 := by
  revert b; decide

/-- Settles O39: the decoder's case for either scroll gives the fields, and code 3 has the displacement 0 of code 0. -/
theorem reservedScrollCommandMeansNone : Obligations.ReservedScrollCommandMeansNone := by
  refine ⟨fun rec hcommand => ⟨fun hcode => ?_, fun hcode => ?_⟩, fun c cmd hOff vOff d => ?_⟩
  · have hcase : DecodeCase rec _ := .scrollPreset ((commandField_eq_nine_iff rec).2 hcommand)
      ((codeField_toNat rec).trans (congrArg BitVec.toNat hcode))
    rw [hcase.decode_eq, hCmdField, vCmdField, scrollCmd_eq, scrollCmd_eq]
    exact ⟨_, _, rfl⟩
  · have hcase : DecodeCase rec _ := .scrollCopy ((commandField_eq_nine_iff rec).2 hcommand)
      ((codeField_toNat rec).trans (congrArg BitVec.toNat hcode))
    rw [hcase.decode_eq, hCmdField, vCmdField, scrollCmd_eq, scrollCmd_eq]
    exact ⟨_, _, rfl⟩
  · simp

/-! ### Shifts in a row -/

/-- Two displacements along one axis do not point against each other. -/
def SameSense (d e : Int) : Prop := (0 ≤ d ∧ 0 ≤ e) ∨ (d ≤ 0 ∧ e ≤ 0)

theorem sameSense_zero_left (e : Int) : SameSense 0 e := by unfold SameSense; omega

theorem sameSense_zero_right (d : Int) : SameSense d 0 := by unfold SameSense; omega

theorem sameSense_mul (n : Nat) (d : Int) : SameSense d (n * d) := by
  obtain hd | hd := le_total 0 d
  · exact .inl ⟨hd, mul_nonneg n.cast_nonneg hd⟩
  · exact .inr ⟨hd, mul_nonpos_of_nonneg_of_nonpos n.cast_nonneg hd⟩

/-- R96, R98: two shifts that do not point against each other on either axis are one; what the first fills the second
does not bring back. -/
theorem shift_shift (fb : Framebuffer) (dy dx ey ex : Int) (c : ColorIndex) (hy : SameSense dy ey)
    (hx : SameSense dx ex) : (fb.shift dy dx c).shift ey ex c = fb.shift (dy + ey) (dx + ex) c := by
  apply framebuffer_ext
  intro y x
  unfold SameSense at hy hx
  by_cases hin : 0 ≤ (y.val : Int) - ey ∧ (y.val : Int) - ey ≤ 215 ∧ 0 ≤ (x.val : Int) - ex ∧ (x.val : Int) - ex ≤ 299
  · have hrow : (((y.val : Int) - ey).toNat : Int) - dy = y.val - (dy + ey) := by omega
    have hcolumn : (((x.val : Int) - ex).toNat : Int) - dx = x.val - (dx + ex) := by omega
    rw [get_shift, get?_inside _ _ _ hin, Option.getD_some, get_shift, get_shift, hrow, hcolumn]
  · rw [get_shift_outside _ _ _ _ _ _ hin, get_shift_outside _ _ _ _ _ _ (by omega)]

@[simp] theorem displayAfter_scrollPreset (c : ColorIndex) (h : BitVec 2) (ho : BitVec 3) (v : BitVec 2) (vo : BitVec 4)
    (d : Display) : displayAfter (.scrollPreset c h ho v vo) d =
      { d with framebuffer := d.framebuffer.shift (scrollDy v) (scrollDx h) c } := rfl

@[simp] theorem displayAfter_scrollCopy (c : ColorIndex) (h : BitVec 2) (ho : BitVec 3) (v : BitVec 2) (vo : BitVec 4)
    (d : Display) : displayAfter (.scrollCopy c h ho v vo) d =
      { d with framebuffer := d.framebuffer.rotate (scrollDy v) (scrollDx h) } := rfl

/-- Settles O40: each axis leaves the other's displacement at 0, which points against nothing, so the two moves add up in
either order. -/
theorem scrollAxesAreIndependent : Obligations.ScrollAxesAreIndependent := by
  intro c hCmd hOff vCmd vOff s
  constructor
  · refine exists_exec_execAll_display_eq ?_ ?_
    · simp [shift_shift, sameSense_zero_left, sameSense_zero_right]
    · simp [shift_shift, sameSense_zero_left, sameSense_zero_right]
  · refine exists_exec_execAll_display_eq ?_ ?_
    · simp [rotate_rotate]
    · simp [rotate_rotate]

/-! ### The same scroll again -/

theorem displayAfterAll_replicate_scrollPreset (n : Nat) (c : ColorIndex) (h : BitVec 2) (ho : BitVec 3) (v : BitVec 2)
    (vo : BitVec 4) (d : Display) : displayAfterAll (List.replicate n (.scrollPreset c h ho v vo)) d =
      { d with framebuffer := d.framebuffer.shift (n * scrollDy v) (n * scrollDx h) c } := by
  induction n generalizing d with
  | zero => simp
  | succ n ih =>
    have hadd (e : Int) : ((n + 1 : Nat) : Int) * e = e + n * e := by push_cast; ring
    rw [List.replicate_succ, displayAfterAll_cons, ih, displayAfter_scrollPreset,
      shift_shift _ _ _ _ _ _ (sameSense_mul n _) (sameSense_mul n _), hadd, hadd]

theorem displayAfterAll_replicate_scrollCopy (n : Nat) (c : ColorIndex) (h : BitVec 2) (ho : BitVec 3) (v : BitVec 2)
    (vo : BitVec 4) (d : Display) : displayAfterAll (List.replicate n (.scrollCopy c h ho v vo)) d =
      { d with framebuffer := d.framebuffer.rotate (n * scrollDy v) (n * scrollDx h) } := by
  induction n generalizing d with
  | zero => simp
  | succ n ih =>
    have hadd (e : Int) : ((n + 1 : Nat) : Int) * e = e + n * e := by push_cast; ring
    rw [List.replicate_succ, displayAfterAll_cons, ih, displayAfter_scrollCopy, rotate_rotate, hadd, hadd]

/-- R98: equal preset scrolls run through, and the picture is shifted by their displacements' sum. -/
theorem exists_execAll_replicate_scrollPreset (n : Nat) (c : ColorIndex) (h : BitVec 2) (ho : BitVec 3) (v : BitVec 2)
    (vo : BitVec 4) (s : State) : ∃ t, execAll (List.replicate n (.scrollPreset c h ho v vo)) s = .next t ∧
      t.display.framebuffer = s.display.framebuffer.shift (n * scrollDy v) (n * scrollDx h) c := by
  obtain ⟨t, ht, htd⟩ := exists_execAll_display (List.replicate n (.scrollPreset c h ho v vo)) s
  exact ⟨t, ht, by rw [htd, displayAfterAll_replicate_scrollPreset]⟩

/-- Settles O41: the shift by `6n` columns, read where its source lies in the grid and where it does not. -/
theorem repeatedHorizontalScrollFills : Obligations.RepeatedHorizontalScrollFills := by
  intro n c hOff vOff s
  constructor
  · obtain ⟨t, ht, hfb⟩ := exists_execAll_replicate_scrollPreset n c 1#2 hOff 0#2 vOff s
    rw [scrollDx_one, scrollDy_zero] at hfb
    refine ⟨t, ht, fun y x => ⟨fun _ => ?_, fun x0 _ => ?_⟩⟩
    · rw [hfb, get_shift_outside _ _ _ _ _ _ (by omega)]
    · rw [hfb, get_shift_inside _ _ _ _ y y x x0 (by omega) (by omega)]
  · obtain ⟨t, ht, hfb⟩ := exists_execAll_replicate_scrollPreset n c 2#2 hOff 0#2 vOff s
    rw [scrollDx_two, scrollDy_zero] at hfb
    refine ⟨t, ht, fun y x => ⟨fun _ => ?_, fun x0 _ => ?_⟩⟩
    · rw [hfb, get_shift_outside _ _ _ _ _ _ (by omega)]
    · rw [hfb, get_shift_inside _ _ _ _ y y x x0 (by omega) (by omega)]

/-- Settles O42: the shift by `12n` rows, read where its source lies in the grid and where it does not. -/
theorem repeatedVerticalScrollFills : Obligations.RepeatedVerticalScrollFills := by
  intro n c hOff vOff s
  constructor
  · obtain ⟨t, ht, hfb⟩ := exists_execAll_replicate_scrollPreset n c 0#2 hOff 1#2 vOff s
    rw [scrollDx_zero, scrollDy_one] at hfb
    refine ⟨t, ht, fun y x => ⟨fun _ => ?_, fun y0 _ => ?_⟩⟩
    · rw [hfb, get_shift_outside _ _ _ _ _ _ (by omega)]
    · rw [hfb, get_shift_inside _ _ _ _ y y0 x x (by omega) (by omega)]
  · obtain ⟨t, ht, hfb⟩ := exists_execAll_replicate_scrollPreset n c 0#2 hOff 2#2 vOff s
    rw [scrollDx_zero, scrollDy_two] at hfb
    refine ⟨t, ht, fun y x => ⟨fun _ => ?_, fun y0 _ => ?_⟩⟩
    · rw [hfb, get_shift_outside _ _ _ _ _ _ (by omega)]
    · rw [hfb, get_shift_inside _ _ _ _ y y0 x x (by omega) (by omega)]

/-! ### Copy scrolls in a row -/

/-- Settles O43: the two rotations add up to none. -/
theorem oppositeCopyScrollsUndoEachOther : Obligations.OppositeCopyScrollsUndoEachOther := by
  intro c c' hOff hOff' vOff vOff' s
  have hundo {h h' v v' : BitVec 2} (hx : scrollDx h + scrollDx h' = 0) (hy : scrollDy v + scrollDy v' = 0) :
      ∃ t, execAll [.scrollCopy c h hOff v vOff, .scrollCopy c' h' hOff' v' vOff'] s = .next t ∧
        t.display = s.display :=
    exists_execAll_display_of_eq (by simp [rotate_rotate, hx, hy])
  exact ⟨hundo rfl rfl, hundo rfl rfl, hundo rfl rfl, hundo rfl rfl⟩

/-- R99: fifty horizontal displacements are whole turns. -/
theorem fifty_scrollDx (cmd : BitVec 2) : ((50 : Nat) : Int) * scrollDx cmd % 300 = 0 := by
  revert cmd; decide

/-- R99: eighteen vertical displacements are whole turns. -/
theorem eighteen_scrollDy (cmd : BitVec 2) : ((18 : Nat) : Int) * scrollDy cmd % 216 = 0 := by
  revert cmd; decide

/-- Settles O44: the rotation by the sum of the displacements is one by whole turns. -/
theorem copyScrollsHaveTheirPeriods : Obligations.CopyScrollsHaveTheirPeriods := by
  intro c cmd hOff vOff s
  constructor
  · refine exists_execAll_display_of_eq ?_
    rw [displayAfterAll_replicate_scrollCopy, rotate_turns _ _ _ rfl (fifty_scrollDx cmd)]
  · refine exists_execAll_display_of_eq ?_
    rw [displayAfterAll_replicate_scrollCopy, rotate_turns _ _ _ (eighteen_scrollDy cmd) rfl]

/-! ### A copy scroll as a permutation -/

/-- R95: where a rotation takes each row from. -/
def rowSource (dy : Int) : Equiv.Perm (Fin 216) where
  toFun y := wrapRow (y.val - dy)
  invFun y := wrapRow (y.val - -dy)
  left_inv y := (wrapRow_sub _ _ _).trans (wrapRow_of_lt _ y (by omega))
  right_inv y := (wrapRow_sub _ _ _).trans (wrapRow_of_lt _ y (by omega))

/-- R95: where a rotation takes each column from. -/
def columnSource (dx : Int) : Equiv.Perm (Fin 300) where
  toFun x := wrapColumn (x.val - dx)
  invFun x := wrapColumn (x.val - -dx)
  left_inv x := (wrapColumn_sub _ _ _).trans (wrapColumn_of_lt _ x (by omega))
  right_inv x := (wrapColumn_sub _ _ _).trans (wrapColumn_of_lt _ x (by omega))

/-- R95: where a rotation takes each cell from. -/
def cellSource (dy dx : Int) : Equiv.Perm (Fin 216 × Fin 300) := (rowSource dy).prodCongr (columnSource dx)

theorem get_rotate_eq_cellSource (fb : Framebuffer) (dy dx : Int) (y : Fin 216) (x : Fin 300) :
    (fb.rotate dy dx).get y x = fb.get (cellSource dy dx (y, x)).1 (cellSource dy dx (y, x)).2 :=
  get_rotate fb dy dx y x

/-- Cells taken from a permutation of the places hold each value as often as before. -/
theorem count_eq_of_perm {a b : Framebuffer} (move : Equiv.Perm (Fin 216 × Fin 300))
    (h : ∀ y x, a.get y x = b.get (move (y, x)).1 (move (y, x)).2) (v : ColorIndex) : a.count v = b.count v :=
  Finset.card_equiv move fun p => by simp [h p.1 p.2]

/-- Settles O45: the rotation takes its cells from `cellSource`. -/
theorem copyScrollPermutesTheCells : Obligations.CopyScrollPermutesTheCells := by
  intro c hCmd hOff vCmd vOff s
  have hmove := get_rotate_eq_cellSource s.display.framebuffer (scrollDy vCmd) (scrollDx hCmd)
  exact ⟨_, exec_of_apply_eq (apply_scrollCopy c hCmd hOff vCmd vOff s.display), ⟨_, hmove⟩, count_eq_of_perm _ hmove⟩

end Sys2Proof.Proofs
end

section
/-! The laws of the XOR tile (spec/42_tile_block.md R83): an accepted XOR tile XORs into every cell a value that does not
depend on the picture, so that two of them cancel or commute cell by cell. -/

namespace Sys2Proof.Proofs

open Sys2Proof.Machine Sys2Proof.Laws

/-- R29: a cell inside a tile has a row and a column number in it. -/
theorem exists_tile_index {row col : Nat} {y : Fin 216} {x : Fin 300}
    (h : row * 12 ≤ y.val ∧ y.val < row * 12 + 12 ∧ col * 6 ≤ x.val ∧ x.val < col * 6 + 6) :
    ∃ (i : Fin 12) (j : Fin 6), y.val = row * 12 + i.val ∧ x.val = col * 6 + j.val := by
  obtain ⟨hrow, hrow', hcol, hcol'⟩ := h
  exact ⟨⟨y.val - row * 12, by omega⟩, ⟨x.val - col * 6, by omega⟩, (Nat.add_sub_cancel' hrow).symm,
    (Nat.add_sub_cancel' hcol).symm⟩

/-- R82: the picture with the XOR tile painted. -/
def xorTile (fb : Framebuffer) (c0 c1 : ColorIndex) (row : BitVec 5) (col : BitVec 6) (bits : Vector (BitVec 6) 12) :
    Framebuffer :=
  fb.paintTile row.toNat col.toNat fun i j old => old ^^^ sel c0 c1 bits i j

/-- R82: what an XOR tile changes in a cell is what it makes of a cell that holds 0. -/
theorem get_xorTile (fb : Framebuffer) (c0 c1 : ColorIndex) (row : BitVec 5) (col : BitVec 6)
    (bits : Vector (BitVec 6) 12) (y : Fin 216) (x : Fin 300) :
    (xorTile fb c0 c1 row col bits).get y x = fb.get y x ^^^ (xorTile (.fill 0) c0 c1 row col bits).get y x := by
  by_cases hin : row.toNat * 12 ≤ y.val ∧ y.val < row.toNat * 12 + 12 ∧ col.toNat * 6 ≤ x.val ∧
      x.val < col.toNat * 6 + 6
  · obtain ⟨i, j, hy, hx⟩ := exists_tile_index hin
    simp [xorTile, get_paintTile_inside _ _ _ _ y x i j hy hx]
  · simp [xorTile, get_paintTile_outside _ _ _ _ y x hin]

theorem displayAfter_tileBlockXor {row : BitVec 5} {col : BitVec 6} (hr : row.toNat ≤ 17) (hc : col.toNat ≤ 49)
    (c0 c1 : ColorIndex) (bits : Vector (BitVec 6) 12) (d : Display) :
    displayAfter (.tileBlockXor c0 c1 row col bits) d =
      { d with framebuffer := xorTile d.framebuffer c0 c1 row col bits } :=
  congrArg Prod.snd (apply_tileBlockXor_accepted hr hc c0 c1 bits d)

/-- Settles O46: the two equal values cancel in each cell. -/
theorem xorTileTwiceRestores : Obligations.XorTileTwiceRestores := by
  intro c0 c1 row col bits s hr hc
  have hfb (fb : Framebuffer) : xorTile (xorTile fb c0 c1 row col bits) c0 c1 row col bits = fb :=
    framebuffer_ext fun y x => by rw [get_xorTile, get_xorTile fb, BitVec.xor_assoc, BitVec.xor_self, BitVec.xor_zero]
  refine exists_execAll_display_of_eq ?_
  simp only [displayAfterAll_cons, displayAfterAll_nil, displayAfter_tileBlockXor hr hc, hfb]

/-- Settles O47: the two values commute in each cell. -/
theorem acceptedXorTilesCommute : Obligations.AcceptedXorTilesCommute := by
  intro c0 c1 row col bits e0 e1 row' col' bits' s hr hc hr' hc'
  have hfb (fb : Framebuffer) : xorTile (xorTile fb c0 c1 row col bits) e0 e1 row' col' bits' =
      xorTile (xorTile fb e0 e1 row' col' bits') c0 c1 row col bits :=
    framebuffer_ext fun y x => by
      rw [get_xorTile, get_xorTile fb, get_xorTile (xorTile fb _ _ _ _ _), get_xorTile fb e0]
      ac_rfl
  refine exists_execAll_display_eq ?_
  simp only [displayAfterAll_cons, displayAfterAll_nil, displayAfter_tileBlockXor hr hc,
    displayAfter_tileBlockXor hr' hc', hfb]

end Sys2Proof.Proofs
end

section
/-! What an instruction leaves unchanged (spec/10_state.md R13 to R16, spec/20_memory.md R37): the writers of each index
register and of each colour-table bank, and the cells of an instruction's footprint. -/

namespace Sys2Proof.Proofs

open Sys2Proof.Machine Sys2Proof.Laws

/-- R37: what an instruction can write, as the Display States it can leave behind. -/
inductive Writes (d : Display) : TypedInstr → Display → Prop
  | pictureOnly (t : TypedInstr) (fb : Framebuffer) : Writes d t { d with framebuffer := fb }
  | memoryPreset (c : ColorIndex) (fb : Framebuffer) :
      Writes d (.memoryPreset c) { d with framebuffer := fb, bgColor := c }
  | borderPreset (c : ColorIndex) (fb : Framebuffer) :
      Writes d (.borderPreset c) { d with framebuffer := fb, borderColor := c }
  | defineTransparent (c : ColorIndex) : Writes d (.defineTransparent c) { d with transparentColor := c }
  | loadColorsLow (entries : Vector Rgb 8) :
      Writes d (.loadColorsLow entries) { d with colorTable := d.colorTable.setLow entries }
  | loadColorsHigh (entries : Vector Rgb 8) :
      Writes d (.loadColorsHigh entries) { d with colorTable := d.colorTable.setHigh entries }

theorem writes_placeTile (t : TypedInstr) (row : BitVec 5) (col : BitVec 6)
    (new : Fin 12 → Fin 6 → ColorIndex → ColorIndex) (d : Display) : Writes d t (placeTile row col new d).2 := by
  cases htest : tileOutOfRange row col with
  | true =>
    rw [placeTile_rejected htest]
    exact .pictureOnly t d.framebuffer
  | false =>
    rw [placeTile_accepted htest]
    exact .pictureOnly t _

theorem writes_apply (t : TypedInstr) (d : Display) : Writes d t (apply t d).2 := by
  cases t with
  | empty => exact .pictureOnly .empty d.framebuffer
  | memoryPreset c => exact .memoryPreset c _
  | borderPreset c => exact .borderPreset c _
  | defineTransparent c => exact .defineTransparent c
  | loadColorsLow entries => exact .loadColorsLow entries
  | loadColorsHigh entries => exact .loadColorsHigh entries
  | tileBlock c0 c1 row col bits => exact writes_placeTile _ row col _ d
  | tileBlockXor c0 c1 row col bits => exact writes_placeTile _ row col _ d
  | scrollPreset c h ho v vo => exact .pictureOnly _ _
  | scrollCopy c h ho v vo => exact .pictureOnly _ _

theorem display_eq_of_exec {i : Instr} {s t : State} (h : exec i s = .next t) :
    t.display = (apply i.typed s.display).2 := by
  rw [exec_eq_next_emit_apply, Host.Outcome.next.injEq] at h
  subst h
  rfl

theorem writes_of_exec {i : Instr} {s t : State} (h : exec i s = .next t) : Writes s.display i.typed t.display :=
  display_eq_of_exec h ▸ writes_apply i.typed s.display

/-- Settles O49: of the cases of `Writes`, each register is written in one only, that of its own instruction. -/
theorem eachIndexRegisterHasOneWriter : Obligations.EachIndexRegisterHasOneWriter := by
  intro i s t hexec
  have hwrites := writes_of_exec hexec
  generalize htyped : i.typed = u, t.display = d at hwrites ⊢
  cases hwrites with
  | memoryPreset c fb =>
    have hi : i = .memoryPreset c := eq_rowOfTyped_of_typed htyped (by simp)
    simpa using fun _ => hi
  | borderPreset c fb =>
    have hi : i = .borderPreset c := eq_rowOfTyped_of_typed htyped (by simp)
    simpa using fun _ => hi
  | defineTransparent c =>
    have hi : i = .defineTransparent c := eq_rowOfTyped_of_typed htyped (by simp)
    simpa using fun _ => hi
  | pictureOnly | loadColorsLow | loadColorsHigh => simp

/-- Settles O50: of the cases of `Writes`, the two loads alone write the colour table, and either leaves the other's
bank. -/
theorem onlyTheBanksLoadChangesAnEntry : Obligations.OnlyTheBanksLoadChangesAnEntry := by
  intro i s t k hexec hchange
  have hwrites := writes_of_exec hexec
  generalize htyped : i.typed = u, t.display = d at hwrites hchange
  cases hwrites with
  | loadColorsLow entries =>
    refine .inl ⟨?_, entries, eq_rowOfTyped_of_typed htyped (by simp)⟩
    by_contra hk
    exact hchange (setLow_high _ entries k.val k.isLt (not_lt.1 hk))
  | loadColorsHigh entries =>
    refine .inr ⟨?_, entries, eq_rowOfTyped_of_typed htyped (by simp)⟩
    by_contra hk
    exact hchange (setHigh_low _ entries k.val (not_le.1 hk))
  | pictureOnly | memoryPreset | borderPreset | defineTransparent => exact absurd rfl hchange

/-- R37: a placement leaves the cells of every other tile, and a rejected one leaves all. -/
theorem get_placeTile_outside {row : BitVec 5} {col : BitVec 6} {y : Fin 216} {x : Fin 300}
    (h : ¬(row.toNat ≤ 17 ∧ col.toNat ≤ 49 ∧ y.val / 12 = row.toNat ∧ x.val / 6 = col.toNat))
    (new : Fin 12 → Fin 6 → ColorIndex → ColorIndex) (d : Display) :
    (placeTile row col new d).2.framebuffer.get y x = d.framebuffer.get y x := by
  cases htest : tileOutOfRange row col with
  | true => rw [placeTile_rejected htest]
  | false =>
    have hin := mt (tileOutOfRange_iff row col).2 (by simp [htest])
    rw [placeTile_accepted htest]
    exact get_paintTile_outside _ _ _ _ y x (by omega)

/-- R57, R92: a command that is neither 1 nor 2 moves nothing. -/
theorem scrollDx_eq_zero {cmd : BitVec 2} (h : ¬(cmd = 1 ∨ cmd = 2)) : scrollDx cmd = 0 := by
  obtain ⟨h1, h2⟩ := not_or.1 h
  rw [scrollDx, if_neg h1, if_neg h2]

/-- R57, R92: the same of the vertical command. -/
theorem scrollDy_eq_zero {cmd : BitVec 2} (h : ¬(cmd = 1 ∨ cmd = 2)) : scrollDy cmd = 0 := by
  obtain ⟨h1, h2⟩ := not_or.1 h
  rw [scrollDy, if_neg h1, if_neg h2]

theorem scroll_displacements_eq_zero {hCmd vCmd : BitVec 2} (h : ¬(hCmd = 1 ∨ hCmd = 2 ∨ vCmd = 1 ∨ vCmd = 2)) :
    scrollDx hCmd = 0 ∧ scrollDy vCmd = 0 :=
  ⟨scrollDx_eq_zero (by tauto), scrollDy_eq_zero (by tauto)⟩

/-- R37: `apply` leaves a cell outside the footprint. -/
theorem get_apply_of_not_writesCell {t : TypedInstr} {y : Fin 216} {x : Fin 300} (h : ¬t.WritesCell y x) (d : Display) :
    (apply t d).2.framebuffer.get y x = d.framebuffer.get y x := by
  cases t with
  | memoryPreset c => exact absurd trivial h
  | borderPreset c =>
    have hinterior := mt (isBorder_iff y x).1 h
    simp [hinterior]
  | tileBlock c0 c1 row col bits => exact get_placeTile_outside h _ d
  | tileBlockXor c0 c1 row col bits => exact get_placeTile_outside h _ d
  | scrollPreset c hCmd hOff vCmd vOff =>
    obtain ⟨hdx, hdy⟩ := scroll_displacements_eq_zero h
    rw [apply_scrollPreset, hdx, hdy, shift_zero]
  | scrollCopy c hCmd hOff vCmd vOff =>
    obtain ⟨hdx, hdy⟩ := scroll_displacements_eq_zero h
    rw [apply_scrollCopy, hdx, hdy, rotate_zero]
  | empty | loadColorsLow | loadColorsHigh | defineTransparent => rfl

/-- Settles O51, by the footprint of the typed instruction. -/
theorem cellsOutsideTheFootprintNeverChange : Obligations.CellsOutsideTheFootprintNeverChange := by
  intro i s t y x hexec hcell
  rw [display_eq_of_exec hexec, get_apply_of_not_writesCell hcell]

end Sys2Proof.Proofs
end

section
/-! Instructions applied again, in another order or on another state: the idempotent ones (spec/20_memory.md R37), the
bank loads (spec/43_load_colors.md R89), and the presets that make the picture known (spec/70_reset_and_hazards.md R120). -/

namespace Sys2Proof.Proofs

open Sys2Proof.Machine Sys2Proof.Laws

/-! ### Idempotent instructions -/

/-- R76: filling the border again changes nothing more. -/
theorem fillBorder_fillBorder (fb : Framebuffer) (c : ColorIndex) :
    (fb.fillBorder c).fillBorder c = fb.fillBorder c := by
  apply framebuffer_ext
  intro y x
  simp only [get_fillBorder]
  split <;> rfl

/-- R81: a tile whose new cells do not depend on the old ones, painted again, changes nothing more. -/
theorem paintTile_paintTile (fb : Framebuffer) (row col : Nat) (new : Fin 12 → Fin 6 → ColorIndex) :
    (fb.paintTile row col fun i j _ => new i j).paintTile row col (fun i j _ => new i j) =
      fb.paintTile row col fun i j _ => new i j := by
  apply framebuffer_ext
  intro y x
  by_cases hin : row * 12 ≤ y.val ∧ y.val < row * 12 + 12 ∧ col * 6 ≤ x.val ∧ x.val < col * 6 + 6
  · obtain ⟨i, j, hy, hx⟩ := exists_tile_index hin
    rw [get_paintTile_inside _ _ _ _ y x i j hy hx, get_paintTile_inside _ _ _ _ y x i j hy hx]
  · rw [get_paintTile_outside _ _ _ _ _ _ hin]

/-- A colour table is given by its two banks (R16). -/
theorem colorTable_ext {a b : ColorTable} (hlow : ∀ (k : Nat) (_ : k < 8), a[k] = b[k])
    (hhigh : ∀ (k : Nat) (_ : k < 8), a[8 + k] = b[8 + k]) : a = b := by
  apply Vector.ext
  intro k hk
  obtain hk8 | hk8 := Nat.lt_or_ge k 8
  · exact hlow k hk8
  · obtain ⟨j, rfl⟩ := Nat.exists_eq_add_of_le hk8
    exact hhigh j (by omega)

/-- R88: loading the low bank again changes nothing more. -/
theorem setLow_setLow (ct : ColorTable) (entries : Vector Rgb 8) :
    (ct.setLow entries).setLow entries = ct.setLow entries :=
  colorTable_ext (fun k hk => by rw [setLow_low _ _ k hk, setLow_low _ _ k hk])
    fun k _ => setLow_high _ entries (8 + k) (by omega) (by omega)

/-- R89: loading the high bank again changes nothing more. -/
theorem setHigh_setHigh (ct : ColorTable) (entries : Vector Rgb 8) :
    (ct.setHigh entries).setHigh entries = ct.setHigh entries :=
  colorTable_ext (fun k hk => setHigh_low _ entries k hk)
    fun k hk => by rw [setHigh_high _ _ k hk, setHigh_high _ _ k hk]

/-- R37: of the four command codes, 0 and 3 are the ones that do not move. -/
theorem still_iff (cmd : BitVec 2) : cmd = 0 ∨ cmd = 3 ↔ ¬(cmd = 1 ∨ cmd = 2) := by
  revert cmd; decide

/-- R37: what `apply` leaves behind for an idempotent instruction, it leaves as it is. -/
theorem apply_apply_of_idempotent {t : TypedInstr} (h : t.Idempotent) (d : Display) :
    (apply t (apply t d).2).2 = (apply t d).2 := by
  cases t with
  | empty | memoryPreset | defineTransparent => rfl
  | borderPreset c => simp [fillBorder_fillBorder]
  | loadColorsLow entries => simp [setLow_setLow]
  | loadColorsHigh entries => simp [setHigh_setHigh]
  | tileBlock c0 c1 row col bits =>
    by_cases hgrid : (TypedInstr.tileBlock c0 c1 row col bits).InGrid
    · obtain ⟨hrow, hcol⟩ := hgrid
      simp [apply_tileBlock_accepted hrow hcol, paintTile_paintTile]
    · simp [apply_of_not_inGrid hgrid]
  | tileBlockXor c0 c1 row col bits => simp [apply_tileBlockXor_rejected h]
  | scrollPreset c hCmd hOff vCmd vOff =>
    obtain ⟨hstillX, hstillY⟩ := h
    simp [scrollDx_eq_zero ((still_iff hCmd).1 hstillX), scrollDy_eq_zero ((still_iff vCmd).1 hstillY)]
  | scrollCopy c hCmd hOff vCmd vOff =>
    obtain ⟨hstillX, hstillY⟩ := h
    simp [scrollDx_eq_zero ((still_iff hCmd).1 hstillX), scrollDy_eq_zero ((still_iff vCmd).1 hstillY)]

/-- Settles O58: the second application is of `apply` to what the first left behind. -/
theorem idempotentInstructions : Obligations.IdempotentInstructions := by
  intro i s h
  obtain ⟨t, ht, htd⟩ := exists_exec_display i s
  obtain ⟨u, hu, hud⟩ := exists_execAll_display [i, i] s
  exact ⟨t, u, ht, hu, htd.trans ((apply_apply_of_idempotent h s.display).symm.trans hud.symm)⟩

/-! ### The bank loads -/

@[simp] theorem displayAfter_memoryPreset (c : ColorIndex) (d : Display) :
    displayAfter (.memoryPreset c) d = { d with framebuffer := .fill c, bgColor := c } := rfl

@[simp] theorem displayAfter_loadColorsLow (entries : Vector Rgb 8) (d : Display) :
    displayAfter (.loadColorsLow entries) d = { d with colorTable := d.colorTable.setLow entries } := rfl

@[simp] theorem displayAfter_loadColorsHigh (entries : Vector Rgb 8) (d : Display) :
    displayAfter (.loadColorsHigh entries) d = { d with colorTable := d.colorTable.setHigh entries } := rfl

/-- Settles O34: the new table is the high load of `apply_loadColorsHigh`, read in either bank by `setHigh_high` and
`setHigh_low`. -/
theorem loadColorsHighSetsTheHighBank : Obligations.LoadColorsHighSetsTheHighBank := by
  intro entries s
  refine ⟨s.display.colorTable.setHigh entries, ?_, ?_, ?_⟩
  · exact exec_of_apply_eq (apply_loadColorsHigh entries s.display)
  · exact fun k => setHigh_high _ entries k.val k.isLt
  · exact fun k => setHigh_low _ entries k.val

/-- R89: both banks loaded leave nothing of the table, in either order. -/
theorem setHigh_setLow_eq_setLow_setHigh (ct ct' : ColorTable) (low high : Vector Rgb 8) :
    (ct.setLow low).setHigh high = (ct'.setHigh high).setLow low := by
  apply colorTable_ext
  · intro k hk
    rw [setHigh_low _ _ k hk, setLow_low _ _ k hk, setLow_low _ _ k hk]
  · intro k hk
    rw [setHigh_high _ _ k hk, setLow_high _ _ (8 + k) (by omega) (by omega), setHigh_high _ _ k hk]

/-- R79, R81, R82: a placement neither reads nor writes the colour table. -/
theorem placeTile_with_colorTable (row : BitVec 5) (col : BitVec 6) (new : Fin 12 → Fin 6 → ColorIndex → ColorIndex)
    (ct : ColorTable) (d : Display) :
    (placeTile row col new { d with colorTable := ct }).2 = { (placeTile row col new d).2 with colorTable := ct } := by
  cases htest : tileOutOfRange row col with
  | true => rw [placeTile_rejected htest, placeTile_rejected htest]
  | false => rw [placeTile_accepted htest, placeTile_accepted htest]

/-- R37: an instruction that loads no bank neither reads nor writes the colour table. -/
theorem apply_with_colorTable {t : TypedInstr} (h : ¬t.LoadsColors) (ct : ColorTable) (d : Display) :
    (apply t { d with colorTable := ct }).2 = { (apply t d).2 with colorTable := ct } := by
  cases t with
  | loadColorsLow | loadColorsHigh => exact absurd trivial h
  | tileBlock c0 c1 row col bits => exact placeTile_with_colorTable row col _ ct d
  | tileBlockXor c0 c1 row col bits => exact placeTile_with_colorTable row col _ ct d
  | _ => rfl

theorem apply_colorTable {t : TypedInstr} (h : ¬t.LoadsColors) (d : Display) :
    (apply t d).2.colorTable = d.colorTable := by
  have hsame : (apply t d).2 = { (apply t d).2 with colorTable := d.colorTable } :=
    apply_with_colorTable h d.colorTable d
  rw [hsame]

/-- R89: an instruction that writes the colour table alone commutes with one that loads no bank. -/
theorem displayAfterAll_comm_of_colorTable {load i : Instr} (f : ColorTable → ColorTable)
    (hload : ∀ d, displayAfter load d = { d with colorTable := f d.colorTable }) (hi : ¬i.typed.LoadsColors)
    (d : Display) : displayAfterAll [load, i] d = displayAfterAll [i, load] d := by
  calc displayAfterAll [load, i] d
      = displayAfter i { d with colorTable := f d.colorTable } := congrArg (displayAfter i) (hload d)
    _ = { displayAfter i d with colorTable := f d.colorTable } := apply_with_colorTable hi (f d.colorTable) d
    _ = { displayAfter i d with colorTable := f (displayAfter i d).colorTable } := by
        rw [show (displayAfter i d).colorTable = d.colorTable from apply_colorTable hi d]
    _ = displayAfterAll [i, load] d := (hload (displayAfter i d)).symm

/-- Settles O59: the two loads by `setHigh_setLow_eq_setLow_setHigh`, a load and another instruction because only the load
touches the table. -/
theorem bankLoadsCommute : Obligations.BankLoadsCommute := by
  intro low high i s
  refine ⟨exists_execAll_display_eq ?_, fun hi => ⟨exists_execAll_display_eq ?_, exists_execAll_display_eq ?_⟩⟩
  · simp [setHigh_setLow_eq_setLow_setHigh s.display.colorTable s.display.colorTable]
  · exact displayAfterAll_comm_of_colorTable (·.setLow low) (displayAfter_loadColorsLow low) hi s.display
  · exact displayAfterAll_comm_of_colorTable (·.setHigh high) (displayAfter_loadColorsHigh high) hi s.display

/-! ### The known picture -/

/-- R120: nothing of an old table is left once both banks are loaded. -/
theorem setHigh_setLow_eq (ct ct' : ColorTable) (low high : Vector Rgb 8) :
    (ct.setLow low).setHigh high = (ct'.setLow low).setHigh high :=
  (setHigh_setLow_eq_setLow_setHigh ct ct low high).trans (setHigh_setLow_eq_setLow_setHigh ct' ct low high).symm

/-- Settles O60: after the three presets the two Display States are one, so the program runs from one Display State. -/
theorem presetsMakeThePictureKnown : Obligations.PresetsMakeThePictureKnown := by
  intro c low high program s s' hborder htransparent
  apply exists_execAll_display_eq
  simp only [displayAfterAll_cons, displayAfter_memoryPreset, displayAfter_loadColorsLow, displayAfter_loadColorsHigh,
    hborder, htransparent, setHigh_setLow_eq s.display.colorTable s'.display.colorTable]

end Sys2Proof.Proofs
end
